-- ==== Sys2Proof/Word.lean ====
section
/-! DEFINITION. The sizes and widths of R7, each under its own name, and the word types they shape: bytes, raw
touch counts, tick-counter values, bus operation words, the two fixed-size byte arrays of the spec and a colour
triple. -/

namespace Sys2Proof

namespace Config

/-! ### Sizes and widths of R7 -/

/-- `N_LED`: number of LEDs. -/
abbrev nLed : Nat := 5

/-- `N_CHAN`: colour bytes per LED, order green, red, blue. -/
abbrev nChan : Nat := 3

/-- `N_BUF`: bytes of an LED frame. -/
abbrev nBuf : Nat := 15

/-- `N_TOUCH`: touch channels. -/
abbrev nTouch : Nat := 5

/-- `N_REG`: bytes of the host register file, indices 0 to 35. -/
abbrev nReg : Nat := 36

/-- `RAW_W`: width of a raw touch count (decision D13; log 21). -/
abbrev rawW : Nat := 16

/-- `TICK_W`: width of the monotonic tick counter (decision D18; log 21). -/
abbrev tickW : Nat := 32

end Config

/-- `u8` of R8: every bus datum, register byte and colour byte. -/
abbrev Byte := BitVec 8

/-- A raw touch count, a baseline (`RAW_W` bits, R7) or a delta read as two's complement (R18). -/
abbrev Count := BitVec Config.rawW

/-- A value of the monotonic tick counter (`TICK_W` bits, R7). -/
abbrev Ticks := BitVec Config.tickW

/-- A bus operation word, format `BUSOP`, 18 bits (R67); the narrower formats are zero-extended to it. -/
abbrev BusWord := BitVec 18

/-- The LED frame: `N_BUF` bytes, green, red, blue per LED (R24, R65). -/
abbrev Frame := Vector Byte Config.nBuf

/-- The host register file: `N_REG` bytes (R25). -/
abbrev RegFile := Vector Byte Config.nReg

/-- One value per touch channel (`N_TOUCH`, R7). -/
abbrev PerChannel (α : Type) := Vector α Config.nTouch

/-- A colour as the spec's triples (r, g, b) name it (R7, R123). -/
structure Rgb where
  r : Byte
  g : Byte
  b : Byte
deriving DecidableEq, Repr, Inhabited

end Sys2Proof
end

