-- ==== Sys2Proof/Config.lean ====
section
/-! DEFINITION. The OPEN parameters of R7 and the free values of the environment: opaque constants, so
no claim can rest on what they are. The parameters R7 gives a value stand in Machine/Params.lean. -/

namespace Sys2Proof

/-- The two agents that step once boot has ended (R8, R46). -/
inductive Agent where
  /-- the tick sequencer -/
  | tick
  /-- the bus port -/
  | bus
deriving DecidableEq, Repr, Inhabited

/-- `REDERIVE_SCOPE` (R7, R81). -/
inductive RederiveScope where
  /-- a host write re-derives only the register that depends on the written index -/
  | writtenOnly
  /-- a host write to a writable index re-derives all seven runtime registers -/
  | all
deriving DecidableEq, Repr

/-- `RO_WRITE_POLICY` (R7, decision D5). -/
inductive RoWritePolicy where
  /-- a host write to a read-only index changes nothing -/
  | ignore
  /-- the byte is stored and stays until the block next publishes that register -/
  | storeUntilNextPublish
deriving DecidableEq, Repr

/-- `PREEMPT` (R7, R46, R154, decision D2). -/
inductive Preempt where
  /-- a bus operation falls between phases -/
  | phase
  /-- a bus operation may also fall between two pseudocode lines of phases WAIT, GPIO, TOUCH, BUTTON and
  RENDER -/
  | statement
deriving DecidableEq, Repr

namespace Config

/-! ### OPEN parameters: opaque (log 17) -/

/-- `FW_VERSION` (R26). -/
opaque fwVersion : BitVec 16

/-- `ID[0..ID_LEN-1]`, the identity block (R38). -/
opaque identity : List Byte

/-- `ID_LEN` (R38). -/
abbrev idLen : Nat := identity.length

/-- `PALETTE_A[5]` (R124). -/
opaque paletteA : Vector Rgb nLed

/-- The value `PALETTE_B` takes unless it happens to equal `PALETTE_A`. -/
opaque paletteBCandidate : Vector Rgb nLed

/-- Some palette other than `p`: its first triple has another red byte. -/
def anotherPalette (p : Vector Rgb nLed) : Vector Rgb nLed :=
  p.set 0 { p[0] with r := p[0].r + 1 }

/-- `PALETTE_B[5]`, any palette other than `PALETTE_A`: "`PALETTE_B ≠ PALETTE_A` as sequences of five
triples is the only constraint D0 gives" (R125). -/
def paletteB : Vector Rgb nLed :=
  if paletteBCandidate = paletteA then anotherPalette paletteA else paletteBCandidate

/-- `HSV2RGB`, "an uninterpreted total function of its three arguments" (R123). -/
opaque hsv2rgb : Byte → Byte → Byte → Rgb

/-- `FALLBACK[15]` (R195). -/
opaque fallback : Frame

/-- `T0H` (R164). -/
opaque t0h : Nat

/-- `T0L` (R164). -/
opaque t0l : Nat

/-- By how much `T1H` exceeds `T0H`, less one. -/
opaque t1hExcess : Nat

/-- `T1H`, any duration above `T0H`: "`T1H > T0H`" (R66). -/
def t1h : Nat := t0h + t1hExcess + 1

/-- `T1L` (R163). -/
opaque t1l : Nat

/-- `T_RESET`, the minimum idle-low gap that ends a frame (R7, R168). -/
opaque tReset : Nat

/-- By how much the gap at a place of the line trace outlasts `T_RESET`: "≥ `T_RESET`" (R169; log 16). -/
opaque gapExcess : Nat → Nat

/-- `TICK_UNIT`, counter increments per millisecond (R146). -/
opaque tickUnit : Nat

/-- `RSPEED_RESET` (R13). -/
opaque rspeedReset : Byte

/-- `SSPEED_RESET` (R14). -/
opaque sspeedReset : Byte

/-- `T_STARTUP`, in counter increments (R191; log 15). -/
opaque tStartup : Ticks

/-- `T_FALLBACK_PAUSE`, in counter increments (R195; log 15). -/
opaque tFallbackPause : Ticks

/-- `ADDR_CTRL`, the bus address of the control surface (R40). -/
opaque addrCtrl : Nat

/-- `ADDR_ID`, the bus address of the identity block (R40). -/
opaque addrId : Nat

/-- `GPIO_DIR_ONE_IS_OUTPUT` (R27). -/
opaque gpioDirOneIsOutput : Bool

/-- `GPIO_PULL`: the level an input pin is pulled to (R83). -/
opaque gpioPull : Bool

/-- `BASE[0..4]` before CALIBRATE, any value (R17, U17). DESIGN CHOICE; safe, log 2. -/
opaque basePowerOn : PerChannel Count

/-! ### Free values: what the environment answers where no script in `State` says it (log 7, log 8).
The last argument of each is the draw counter `Env.draws`. -/

/-- `TouchSample(c, iters)` (R110). -/
opaque freeTouch : Nat → Nat → Nat → Count

/-- `ButtonSample()` (R140). -/
opaque freeButton : Nat → Bool

/-- `GpioSample()` (R9). -/
opaque freeGpio : Nat → BitVec 4

/-- `Strap()` (R9). -/
opaque freeStrap : Nat → Bool

/-- `BusLinesHigh()` (R9). -/
opaque freeBusHigh : Nat → Bool

/-- The time that passes before a reading of `Now()` (R9, R178). -/
opaque freeElapsed : Nat → Ticks

/-- `draw(u8)` (R41, R108, R109). -/
opaque freeByte : Nat → Byte

/-- Which agent moves at a step boundary (R46, R174). -/
opaque freeTurn : Nat → Agent

/-- The bus operation the host issues next (R80). -/
opaque freeHostOp : Nat → BusWord

end Config

end Sys2Proof
end

