-- ==== Sys2Proof/Syntax.lean ====
section
/-! DEFINITION. The instruction set: one constructor per row of the opcode table (R60), the five formats
and the six boot steps. -/

namespace Sys2Proof

/-- The five formats of the opcode table (R67, R64, R68, R66). -/
inductive Format where
  /-- 18 bits: one bus operation -/
  | busop
  /-- 8 bits: the mode byte -/
  | mode
  /-- 3 bits: the phase register `PH` -/
  | phase
  /-- 1 bit: one data bit of the LED frame -/
  | sym
  /-- 3 bits: one boot step -/
  | boot
deriving DecidableEq, Repr

/-- The width of a format in bits. -/
def Format.width : Format → Nat
  | .busop => 18
  | .mode => 8
  | .phase => 3
  | .sym => 1
  | .boot => 3

/-- The boot steps in their order (R68, R190). -/
inductive BootStep where
  | init
  | strap
  | calibrate
  | selfcheck
  | fallback
  | enable
deriving DecidableEq, Repr

/-- The operations of the block, one constructor per row of the opcode table. A write carries the byte
to write (`v`), an operation on a range of indices the index itself, a reserved mode the mode byte. A
read carries no data byte: it is "ignored (written as 0) in a read" (R67). -/
inductive Instr where
  -- host writes, one per register of the control surface (R82 to R93)
  | wrFwlo (v : Byte)
  | wrFwhi (v : Byte)
  | wrGpiomode (v : Byte)
  | wrGpioin (v : Byte)
  | wrGpioout (v : Byte)
  | wrMode (v : Byte)
  | wrTdelta0L (v : Byte)
  | wrTdelta0H (v : Byte)
  | wrTdelta1L (v : Byte)
  | wrTdelta1H (v : Byte)
  | wrTdelta2L (v : Byte)
  | wrTdelta2H (v : Byte)
  | wrTdelta3L (v : Byte)
  | wrTdelta3H (v : Byte)
  | wrTdelta4L (v : Byte)
  | wrTdelta4H (v : Byte)
  | wrLevel (v : Byte)
  | wrRspeed (v : Byte)
  | wrSspeed (v : Byte)
  | wrBtnstate (v : Byte)
  | wrBtnen (v : Byte)
  | wrLed0G (v : Byte)
  | wrLed0R (v : Byte)
  | wrLed0B (v : Byte)
  | wrLed1G (v : Byte)
  | wrLed1R (v : Byte)
  | wrLed1B (v : Byte)
  | wrLed2G (v : Byte)
  | wrLed2R (v : Byte)
  | wrLed2B (v : Byte)
  | wrLed3G (v : Byte)
  | wrLed3R (v : Byte)
  | wrLed3B (v : Byte)
  | wrLed4G (v : Byte)
  | wrLed4R (v : Byte)
  | wrLed4B (v : Byte)
  -- host writes to unmapped indices (R94)
  | wrUnmapped36_39 (idx v : Byte)
  | wrUnmapped40_47 (idx v : Byte)
  | wrUnmapped48_63 (idx v : Byte)
  | wrUnmapped64_127 (idx v : Byte)
  | wrUnmapped128_255 (idx v : Byte)
  -- host reads, one per register (R96 to R107)
  | rdFwlo
  | rdFwhi
  | rdGpiomode
  | rdGpioin
  | rdGpioout
  | rdMode
  | rdTdelta0L
  | rdTdelta0H
  | rdTdelta1L
  | rdTdelta1H
  | rdTdelta2L
  | rdTdelta2H
  | rdTdelta3L
  | rdTdelta3H
  | rdTdelta4L
  | rdTdelta4H
  | rdLevel
  | rdRspeed
  | rdSspeed
  | rdBtnstate
  | rdBtnen
  | rdLed0G
  | rdLed0R
  | rdLed0B
  | rdLed1G
  | rdLed1R
  | rdLed1B
  | rdLed2G
  | rdLed2R
  | rdLed2B
  | rdLed3G
  | rdLed3R
  | rdLed3B
  | rdLed4G
  | rdLed4R
  | rdLed4B
  -- host reads of unmapped indices (R108)
  | rdUnmapped36_39 (idx : Byte)
  | rdUnmapped40_47 (idx : Byte)
  | rdUnmapped48_63 (idx : Byte)
  | rdUnmapped64_127 (idx : Byte)
  | rdUnmapped128_255 (idx : Byte)
  -- the identity block (R109)
  | idRd (off : Byte)
  | idWr (off v : Byte)
  -- render modes (R121 to R125, R130 to R132)
  | mPass
  | mSocial
  | mRainbow
  | mPalA
  | mPalB
  | mScanR
  | mScanG
  | mScanB
  -- reserved modes (R133)
  | mReserved8_15 (m : Byte)
  | mReserved16_31 (m : Byte)
  | mReserved32_63 (m : Byte)
  | mReserved64_127 (m : Byte)
  | mReserved128_255 (m : Byte)
  -- phases of the tick sequencer (R146 to R153)
  | phWait
  | phGpio
  | phTouch
  | phButton
  | phPublish
  | phRender
  | phSnapshot
  | phTransmit
  -- line symbols (R163, R164)
  | symS0
  | symS1
  -- boot steps (R191 to R196)
  | bootInit
  | bootStrap
  | bootCalibrate
  | bootSelfcheck
  | bootFallback
  | bootEnable
deriving DecidableEq, Repr

end Sys2Proof
end

