-- ==== Sys2Proof/WellFormed.lean ====
section
/-! DEFINITION. Well-formed instructions: an operand that names an index or a mode lies in the range of its
row; every other operand takes every value. -/

namespace Sys2Proof

/-- `lo ≤ b ≤ hi`, unsigned: the range of a row of the opcode table. -/
def inRange (lo hi : Nat) (b : Byte) : Bool :=
  decide (lo ≤ b.toNat) && decide (b.toNat ≤ hi)

/-- The well-formedness check (R67, R72, R73, R76). -/
def Instr.wf : Instr → Bool
  | .wrFwlo _ => true
  | .wrFwhi _ => true
  | .wrGpiomode _ => true
  | .wrGpioin _ => true
  | .wrGpioout _ => true
  | .wrMode _ => true
  | .wrTdelta0L _ => true
  | .wrTdelta0H _ => true
  | .wrTdelta1L _ => true
  | .wrTdelta1H _ => true
  | .wrTdelta2L _ => true
  | .wrTdelta2H _ => true
  | .wrTdelta3L _ => true
  | .wrTdelta3H _ => true
  | .wrTdelta4L _ => true
  | .wrTdelta4H _ => true
  | .wrLevel _ => true
  | .wrRspeed _ => true
  | .wrSspeed _ => true
  | .wrBtnstate _ => true
  | .wrBtnen _ => true
  | .wrLed0G _ => true
  | .wrLed0R _ => true
  | .wrLed0B _ => true
  | .wrLed1G _ => true
  | .wrLed1R _ => true
  | .wrLed1B _ => true
  | .wrLed2G _ => true
  | .wrLed2R _ => true
  | .wrLed2B _ => true
  | .wrLed3G _ => true
  | .wrLed3R _ => true
  | .wrLed3B _ => true
  | .wrLed4G _ => true
  | .wrLed4R _ => true
  | .wrLed4B _ => true
  | .wrUnmapped36_39 idx _ => inRange 36 39 idx
  | .wrUnmapped40_47 idx _ => inRange 40 47 idx
  | .wrUnmapped48_63 idx _ => inRange 48 63 idx
  | .wrUnmapped64_127 idx _ => inRange 64 127 idx
  | .wrUnmapped128_255 idx _ => inRange 128 255 idx
  | .rdFwlo => true
  | .rdFwhi => true
  | .rdGpiomode => true
  | .rdGpioin => true
  | .rdGpioout => true
  | .rdMode => true
  | .rdTdelta0L => true
  | .rdTdelta0H => true
  | .rdTdelta1L => true
  | .rdTdelta1H => true
  | .rdTdelta2L => true
  | .rdTdelta2H => true
  | .rdTdelta3L => true
  | .rdTdelta3H => true
  | .rdTdelta4L => true
  | .rdTdelta4H => true
  | .rdLevel => true
  | .rdRspeed => true
  | .rdSspeed => true
  | .rdBtnstate => true
  | .rdBtnen => true
  | .rdLed0G => true
  | .rdLed0R => true
  | .rdLed0B => true
  | .rdLed1G => true
  | .rdLed1R => true
  | .rdLed1B => true
  | .rdLed2G => true
  | .rdLed2R => true
  | .rdLed2B => true
  | .rdLed3G => true
  | .rdLed3R => true
  | .rdLed3B => true
  | .rdLed4G => true
  | .rdLed4R => true
  | .rdLed4B => true
  | .rdUnmapped36_39 idx => inRange 36 39 idx
  | .rdUnmapped40_47 idx => inRange 40 47 idx
  | .rdUnmapped48_63 idx => inRange 48 63 idx
  | .rdUnmapped64_127 idx => inRange 64 127 idx
  | .rdUnmapped128_255 idx => inRange 128 255 idx
  | .idRd _ => true
  | .idWr _ _ => true
  | .mPass => true
  | .mSocial => true
  | .mRainbow => true
  | .mPalA => true
  | .mPalB => true
  | .mScanR => true
  | .mScanG => true
  | .mScanB => true
  | .mReserved8_15 m => inRange 8 15 m
  | .mReserved16_31 m => inRange 16 31 m
  | .mReserved32_63 m => inRange 32 63 m
  | .mReserved64_127 m => inRange 64 127 m
  | .mReserved128_255 m => inRange 128 255 m
  | .phWait => true
  | .phGpio => true
  | .phTouch => true
  | .phButton => true
  | .phPublish => true
  | .phRender => true
  | .phSnapshot => true
  | .phTransmit => true
  | .symS0 => true
  | .symS1 => true
  | .bootInit => true
  | .bootStrap => true
  | .bootCalibrate => true
  | .bootSelfcheck => true
  | .bootFallback => true
  | .bootEnable => true

end Sys2Proof
end

