-- ==== Sys2Proof/Decode.lean ====
section
/-! DEFINITION. The decoder, total on words and on bytes and rejecting by name, then the encoder, both from
the encodings of R64, R67 and R68. A word of any format is held in the widest format's 18 bits. -/

namespace Sys2Proof

/-- Why a word is no instruction. -/
inductive DecodeError where
  /-- a bit above the format's width is set -/
  | bitsAboveFormat
  /-- boot step 6 or 7, which never occur (R68, R73) -/
  | unusedBootStep
  /-- the bytes given are not as many as the format takes -/
  | wrongLength
deriving DecidableEq, Repr

/-- The instruction of a `WR` word by its index (R67, rows `WR.*`). -/
def decodeWrite (idx v : Byte) : Instr :=
  match idx.toNat with
  | 0 => .wrFwlo v
  | 1 => .wrFwhi v
  | 2 => .wrGpiomode v
  | 3 => .wrGpioin v
  | 4 => .wrGpioout v
  | 5 => .wrMode v
  | 6 => .wrTdelta0L v
  | 7 => .wrTdelta0H v
  | 8 => .wrTdelta1L v
  | 9 => .wrTdelta1H v
  | 10 => .wrTdelta2L v
  | 11 => .wrTdelta2H v
  | 12 => .wrTdelta3L v
  | 13 => .wrTdelta3H v
  | 14 => .wrTdelta4L v
  | 15 => .wrTdelta4H v
  | 16 => .wrLevel v
  | 17 => .wrRspeed v
  | 18 => .wrSspeed v
  | 19 => .wrBtnstate v
  | 20 => .wrBtnen v
  | 21 => .wrLed0G v
  | 22 => .wrLed0R v
  | 23 => .wrLed0B v
  | 24 => .wrLed1G v
  | 25 => .wrLed1R v
  | 26 => .wrLed1B v
  | 27 => .wrLed2G v
  | 28 => .wrLed2R v
  | 29 => .wrLed2B v
  | 30 => .wrLed3G v
  | 31 => .wrLed3R v
  | 32 => .wrLed3B v
  | 33 => .wrLed4G v
  | 34 => .wrLed4R v
  | 35 => .wrLed4B v
  | n =>
    if n < 40 then .wrUnmapped36_39 idx v
    else if n < 48 then .wrUnmapped40_47 idx v
    else if n < 64 then .wrUnmapped48_63 idx v
    else if n < 128 then .wrUnmapped64_127 idx v
    else .wrUnmapped128_255 idx v

/-- The instruction of an `RD` word by its index (R67, rows `RD.*`); the data byte is ignored (log 24). -/
def decodeRead (idx : Byte) : Instr :=
  match idx.toNat with
  | 0 => .rdFwlo
  | 1 => .rdFwhi
  | 2 => .rdGpiomode
  | 3 => .rdGpioin
  | 4 => .rdGpioout
  | 5 => .rdMode
  | 6 => .rdTdelta0L
  | 7 => .rdTdelta0H
  | 8 => .rdTdelta1L
  | 9 => .rdTdelta1H
  | 10 => .rdTdelta2L
  | 11 => .rdTdelta2H
  | 12 => .rdTdelta3L
  | 13 => .rdTdelta3H
  | 14 => .rdTdelta4L
  | 15 => .rdTdelta4H
  | 16 => .rdLevel
  | 17 => .rdRspeed
  | 18 => .rdSspeed
  | 19 => .rdBtnstate
  | 20 => .rdBtnen
  | 21 => .rdLed0G
  | 22 => .rdLed0R
  | 23 => .rdLed0B
  | 24 => .rdLed1G
  | 25 => .rdLed1R
  | 26 => .rdLed1B
  | 27 => .rdLed2G
  | 28 => .rdLed2R
  | 29 => .rdLed2B
  | 30 => .rdLed3G
  | 31 => .rdLed3R
  | 32 => .rdLed3B
  | 33 => .rdLed4G
  | 34 => .rdLed4R
  | 35 => .rdLed4B
  | n =>
    if n < 40 then .rdUnmapped36_39 idx
    else if n < 48 then .rdUnmapped40_47 idx
    else if n < 64 then .rdUnmapped48_63 idx
    else if n < 128 then .rdUnmapped64_127 idx
    else .rdUnmapped128_255 idx

/-- The fields of a bus operation word (R67). -/
def BusWord.isIdentity (w : BusWord) : Bool := w.getLsbD 17

@[inherit_doc BusWord.isIdentity]
def BusWord.isWrite (w : BusWord) : Bool := w.getLsbD 16

@[inherit_doc BusWord.isIdentity]
def BusWord.index (w : BusWord) : Byte := w.extractLsb' 8 8

@[inherit_doc BusWord.isIdentity]
def BusWord.data (w : BusWord) : Byte := w.extractLsb' 0 8

/-- The bus operation of an 18-bit word: every word is one (R76). -/
def decodeBusop (w : BusWord) : Instr :=
  match BusWord.isIdentity w, BusWord.isWrite w with
  | false, true => decodeWrite (BusWord.index w) (BusWord.data w)
  | false, false => decodeRead (BusWord.index w)
  | true, false => .idRd (BusWord.index w)
  | true, true => .idWr (BusWord.index w) (BusWord.data w)

/-- The render operation of a mode byte (R64, R72). -/
def decodeMode (m : Byte) : Instr :=
  match m.toNat with
  | 0 => .mPass
  | 1 => .mSocial
  | 2 => .mRainbow
  | 3 => .mPalA
  | 4 => .mPalB
  | 5 => .mScanR
  | 6 => .mScanG
  | 7 => .mScanB
  | n =>
    if n < 16 then .mReserved8_15 m
    else if n < 32 then .mReserved16_31 m
    else if n < 64 then .mReserved32_63 m
    else if n < 128 then .mReserved64_127 m
    else .mReserved128_255 m

/-- The phase of a value of `PH` (R68). -/
def decodePhase (p : BitVec 3) : Instr :=
  match p.toNat with
  | 0 => .phWait
  | 1 => .phGpio
  | 2 => .phTouch
  | 3 => .phButton
  | 4 => .phPublish
  | 5 => .phRender
  | 6 => .phSnapshot
  | _ => .phTransmit

/-- The line symbol of a data bit (R66). -/
def decodeSym (bit : Bool) : Instr := if bit then .symS1 else .symS0

/-- The boot step of a step number (R68). -/
def decodeBoot (n : BitVec 3) : Except DecodeError Instr :=
  match n.toNat with
  | 0 => .ok .bootInit
  | 1 => .ok .bootStrap
  | 2 => .ok .bootCalibrate
  | 3 => .ok .bootSelfcheck
  | 4 => .ok .bootFallback
  | 5 => .ok .bootEnable
  | _ => .error .unusedBootStep

/-- The decoder: a word of a format to an instruction, or the reason it is none. -/
def decode (f : Format) (w : BusWord) : Except DecodeError Instr :=
  if w.toNat < 2 ^ f.width then
    match f with
    | .busop => .ok (decodeBusop w)
    | .mode => .ok (decodeMode (w.setWidth 8))
    | .phase => .ok (decodePhase (w.setWidth 3))
    | .sym => .ok (decodeSym (w.getLsbD 0))
    | .boot => decodeBoot (w.setWidth 3)
  else .error .bitsAboveFormat

/-- How many bytes hold a word of a format: as few as hold its bits. DESIGN CHOICE; safe, log 32. -/
def Format.bytes : Format → Nat
  | .busop => 3
  | .mode => 1
  | .phase => 1
  | .sym => 1
  | .boot => 1

/-- The number a byte string stands for, least significant byte first. DESIGN CHOICE; safe, log 32. -/
def littleEndian : List Byte → Nat
  | [] => 0
  | b :: bs => b.toNat + 256 * littleEndian bs

/-- The decoder on bytes, total on any list of them. How a word is laid out in bytes is the model's own: R67 fixes
the bit positions of a word only, and the bytes are read here least significant first, three for a bus word and one
for the other formats. No step reads a word from bytes. DESIGN CHOICE; safe, log 32. -/
def decodeBytes (f : Format) (bs : List Byte) : Except DecodeError Instr :=
  if bs.length = f.bytes then
    if littleEndian bs < 2 ^ 18 then decode f (BitVec.ofNat 18 (littleEndian bs))
    else .error .bitsAboveFormat
  else .error .wrongLength

/-- The format whose words are `nbits` bits wide, or that many in whole bytes. The 8-bit width is the
mode byte's own: the narrower formats, also 8 bits in whole bytes, are told from it by their exact
widths 3 and 1 only (DESIGN CHOICE, safe, log 22). -/
def formatOfBits (nbits : Nat) : Option Format :=
  match nbits with
  | 18 => some .busop
  | 24 => some .busop
  | 8 => some .mode
  | 3 => some .phase
  | 1 => some .sym
  | _ => none

/-- The bytes of a number, least significant first. DESIGN CHOICE; safe, log 32. -/
def bytesOf : Nat → Nat → List Byte
  | 0, _ => []
  | n + 1, w => BitVec.ofNat 8 w :: bytesOf n (w / 256)

/-- The instruction the decoder reads from a word numbered as the opcode table numbers it. -/
def decodeTableWord (nbits w : Nat) : Option Instr :=
  match formatOfBits nbits with
  | none => none
  | some f =>
    if w < 2 ^ nbits then
      match decodeBytes f (bytesOf f.bytes w) with
      | .ok i => some i
      | .error _ => none
    else none

/-! ### The encoder -/

/-- A bus operation word from its fields (R67): `space` in bit 17, `wr` in bit 16, the index in bits 15:8,
the data byte in bits 7:0. -/
def busWord (space wr : Bool) (idx v : Byte) : BusWord :=
  BitVec.ofBool space ++ (BitVec.ofBool wr ++ (idx ++ v))

/-- `WR idx, val` = `{0, 1, idx, val}` (R67). -/
def wrWord (idx v : Byte) : BusWord := busWord false true idx v

/-- `RD idx` = `{0, 0, idx, 0x00}` (R67). -/
def rdWord (idx : Byte) : BusWord := busWord false false idx 0

/-- The format of an instruction. -/
def Instr.format : Instr → Format
  | .wrFwlo _ => .busop
  | .wrFwhi _ => .busop
  | .wrGpiomode _ => .busop
  | .wrGpioin _ => .busop
  | .wrGpioout _ => .busop
  | .wrMode _ => .busop
  | .wrTdelta0L _ => .busop
  | .wrTdelta0H _ => .busop
  | .wrTdelta1L _ => .busop
  | .wrTdelta1H _ => .busop
  | .wrTdelta2L _ => .busop
  | .wrTdelta2H _ => .busop
  | .wrTdelta3L _ => .busop
  | .wrTdelta3H _ => .busop
  | .wrTdelta4L _ => .busop
  | .wrTdelta4H _ => .busop
  | .wrLevel _ => .busop
  | .wrRspeed _ => .busop
  | .wrSspeed _ => .busop
  | .wrBtnstate _ => .busop
  | .wrBtnen _ => .busop
  | .wrLed0G _ => .busop
  | .wrLed0R _ => .busop
  | .wrLed0B _ => .busop
  | .wrLed1G _ => .busop
  | .wrLed1R _ => .busop
  | .wrLed1B _ => .busop
  | .wrLed2G _ => .busop
  | .wrLed2R _ => .busop
  | .wrLed2B _ => .busop
  | .wrLed3G _ => .busop
  | .wrLed3R _ => .busop
  | .wrLed3B _ => .busop
  | .wrLed4G _ => .busop
  | .wrLed4R _ => .busop
  | .wrLed4B _ => .busop
  | .wrUnmapped36_39 _ _ => .busop
  | .wrUnmapped40_47 _ _ => .busop
  | .wrUnmapped48_63 _ _ => .busop
  | .wrUnmapped64_127 _ _ => .busop
  | .wrUnmapped128_255 _ _ => .busop
  | .rdFwlo => .busop
  | .rdFwhi => .busop
  | .rdGpiomode => .busop
  | .rdGpioin => .busop
  | .rdGpioout => .busop
  | .rdMode => .busop
  | .rdTdelta0L => .busop
  | .rdTdelta0H => .busop
  | .rdTdelta1L => .busop
  | .rdTdelta1H => .busop
  | .rdTdelta2L => .busop
  | .rdTdelta2H => .busop
  | .rdTdelta3L => .busop
  | .rdTdelta3H => .busop
  | .rdTdelta4L => .busop
  | .rdTdelta4H => .busop
  | .rdLevel => .busop
  | .rdRspeed => .busop
  | .rdSspeed => .busop
  | .rdBtnstate => .busop
  | .rdBtnen => .busop
  | .rdLed0G => .busop
  | .rdLed0R => .busop
  | .rdLed0B => .busop
  | .rdLed1G => .busop
  | .rdLed1R => .busop
  | .rdLed1B => .busop
  | .rdLed2G => .busop
  | .rdLed2R => .busop
  | .rdLed2B => .busop
  | .rdLed3G => .busop
  | .rdLed3R => .busop
  | .rdLed3B => .busop
  | .rdLed4G => .busop
  | .rdLed4R => .busop
  | .rdLed4B => .busop
  | .rdUnmapped36_39 _ => .busop
  | .rdUnmapped40_47 _ => .busop
  | .rdUnmapped48_63 _ => .busop
  | .rdUnmapped64_127 _ => .busop
  | .rdUnmapped128_255 _ => .busop
  | .idRd _ => .busop
  | .idWr _ _ => .busop
  | .mPass => .mode
  | .mSocial => .mode
  | .mRainbow => .mode
  | .mPalA => .mode
  | .mPalB => .mode
  | .mScanR => .mode
  | .mScanG => .mode
  | .mScanB => .mode
  | .mReserved8_15 _ => .mode
  | .mReserved16_31 _ => .mode
  | .mReserved32_63 _ => .mode
  | .mReserved64_127 _ => .mode
  | .mReserved128_255 _ => .mode
  | .phWait => .phase
  | .phGpio => .phase
  | .phTouch => .phase
  | .phButton => .phase
  | .phPublish => .phase
  | .phRender => .phase
  | .phSnapshot => .phase
  | .phTransmit => .phase
  | .symS0 => .sym
  | .symS1 => .sym
  | .bootInit => .boot
  | .bootStrap => .boot
  | .bootCalibrate => .boot
  | .bootSelfcheck => .boot
  | .bootFallback => .boot
  | .bootEnable => .boot

/-- The word of an instruction in its format (R64, R66, R67, R68). -/
def encode : Instr → BusWord
  | .wrFwlo v => wrWord 0 v
  | .wrFwhi v => wrWord 1 v
  | .wrGpiomode v => wrWord 2 v
  | .wrGpioin v => wrWord 3 v
  | .wrGpioout v => wrWord 4 v
  | .wrMode v => wrWord 5 v
  | .wrTdelta0L v => wrWord 6 v
  | .wrTdelta0H v => wrWord 7 v
  | .wrTdelta1L v => wrWord 8 v
  | .wrTdelta1H v => wrWord 9 v
  | .wrTdelta2L v => wrWord 10 v
  | .wrTdelta2H v => wrWord 11 v
  | .wrTdelta3L v => wrWord 12 v
  | .wrTdelta3H v => wrWord 13 v
  | .wrTdelta4L v => wrWord 14 v
  | .wrTdelta4H v => wrWord 15 v
  | .wrLevel v => wrWord 16 v
  | .wrRspeed v => wrWord 17 v
  | .wrSspeed v => wrWord 18 v
  | .wrBtnstate v => wrWord 19 v
  | .wrBtnen v => wrWord 20 v
  | .wrLed0G v => wrWord 21 v
  | .wrLed0R v => wrWord 22 v
  | .wrLed0B v => wrWord 23 v
  | .wrLed1G v => wrWord 24 v
  | .wrLed1R v => wrWord 25 v
  | .wrLed1B v => wrWord 26 v
  | .wrLed2G v => wrWord 27 v
  | .wrLed2R v => wrWord 28 v
  | .wrLed2B v => wrWord 29 v
  | .wrLed3G v => wrWord 30 v
  | .wrLed3R v => wrWord 31 v
  | .wrLed3B v => wrWord 32 v
  | .wrLed4G v => wrWord 33 v
  | .wrLed4R v => wrWord 34 v
  | .wrLed4B v => wrWord 35 v
  | .wrUnmapped36_39 idx v => wrWord idx v
  | .wrUnmapped40_47 idx v => wrWord idx v
  | .wrUnmapped48_63 idx v => wrWord idx v
  | .wrUnmapped64_127 idx v => wrWord idx v
  | .wrUnmapped128_255 idx v => wrWord idx v
  | .rdFwlo => rdWord 0
  | .rdFwhi => rdWord 1
  | .rdGpiomode => rdWord 2
  | .rdGpioin => rdWord 3
  | .rdGpioout => rdWord 4
  | .rdMode => rdWord 5
  | .rdTdelta0L => rdWord 6
  | .rdTdelta0H => rdWord 7
  | .rdTdelta1L => rdWord 8
  | .rdTdelta1H => rdWord 9
  | .rdTdelta2L => rdWord 10
  | .rdTdelta2H => rdWord 11
  | .rdTdelta3L => rdWord 12
  | .rdTdelta3H => rdWord 13
  | .rdTdelta4L => rdWord 14
  | .rdTdelta4H => rdWord 15
  | .rdLevel => rdWord 16
  | .rdRspeed => rdWord 17
  | .rdSspeed => rdWord 18
  | .rdBtnstate => rdWord 19
  | .rdBtnen => rdWord 20
  | .rdLed0G => rdWord 21
  | .rdLed0R => rdWord 22
  | .rdLed0B => rdWord 23
  | .rdLed1G => rdWord 24
  | .rdLed1R => rdWord 25
  | .rdLed1B => rdWord 26
  | .rdLed2G => rdWord 27
  | .rdLed2R => rdWord 28
  | .rdLed2B => rdWord 29
  | .rdLed3G => rdWord 30
  | .rdLed3R => rdWord 31
  | .rdLed3B => rdWord 32
  | .rdLed4G => rdWord 33
  | .rdLed4R => rdWord 34
  | .rdLed4B => rdWord 35
  | .rdUnmapped36_39 idx => rdWord idx
  | .rdUnmapped40_47 idx => rdWord idx
  | .rdUnmapped48_63 idx => rdWord idx
  | .rdUnmapped64_127 idx => rdWord idx
  | .rdUnmapped128_255 idx => rdWord idx
  | .idRd off => busWord true false off 0
  | .idWr off v => busWord true true off v
  | .mPass => 0
  | .mSocial => 1
  | .mRainbow => 2
  | .mPalA => 3
  | .mPalB => 4
  | .mScanR => 5
  | .mScanG => 6
  | .mScanB => 7
  | .mReserved8_15 m => m.setWidth 18
  | .mReserved16_31 m => m.setWidth 18
  | .mReserved32_63 m => m.setWidth 18
  | .mReserved64_127 m => m.setWidth 18
  | .mReserved128_255 m => m.setWidth 18
  | .phWait => 0
  | .phGpio => 1
  | .phTouch => 2
  | .phButton => 3
  | .phPublish => 4
  | .phRender => 5
  | .phSnapshot => 6
  | .phTransmit => 7
  | .symS0 => 0
  | .symS1 => 1
  | .bootInit => 0
  | .bootStrap => 1
  | .bootCalibrate => 2
  | .bootSelfcheck => 3
  | .bootFallback => 4
  | .bootEnable => 5

/-- The number of a boot step (R68). -/
def BootStep.code : BootStep → BitVec 3
  | .init => 0
  | .strap => 1
  | .calibrate => 2
  | .selfcheck => 3
  | .fallback => 4
  | .enable => 5

end Sys2Proof
end

