-- ==== Sys2Proof/Machine/Params.lean ====
section
/-! DEFINITION. The parameters R7 gives a value, each under its own name (the sizes and widths among them stand in
Word.lean, since the word types need them), and the register file's
power-on contents. -/

namespace Sys2Proof

namespace Config

/-! ### Constants of R7 -/

/-- `N_MODE`: the defined mode values are 0 to `N_MODE - 1`. -/
abbrev nMode : Nat := 8

/-- `LEVEL_MAX`: the largest level the detector produces. -/
abbrev levelMax : Nat := 4

/-- `TH_LEVEL`: touch delta threshold for the level (R112). -/
abbrev thLevel : Int := 1900

/-- `TH_ACTIVE`: touch delta threshold for the blue indicator of mode 1 (R114). -/
abbrev thActive : Int := 2000

/-- `CAL_ITER`: averaging iterations at calibration (R111). -/
abbrev calIter : Nat := 10

/-- `ITER_TICK`: averaging iterations of a per-tick sample (R112, decision D30). -/
abbrev iterTick : Nat := calIter

/-- `LEVEL_STEP` (R69). -/
abbrev levelStep : Nat := 50

/-- `HSV_SAT` (R123). -/
abbrev hsvSat : Byte := 240

/-- `HSV_VAL` (R123). -/
abbrev hsvVal : Byte := 128

/-- `DECAY_STEP` (R128). -/
abbrev decayStep : Nat := 10

/-- `RAMP_STEP` (R129). -/
abbrev rampStep : Nat := 50

/-- `TICK_MS`: the tick period in milliseconds (R146). -/
abbrev tickMs : Nat := 20

/-- The last defined mode, which ends the button's cycle (R142). -/
abbrev lastMode : Nat := nMode - 1

/-- `BTNEN_RESET` (R15, decision D16). -/
abbrev btnEnReset : Bool := false

/-- `REDERIVE_SCOPE`, at the spec's default. DESIGN CHOICE of the spec (D1); unsafe, log 11. -/
def rederiveScope : RederiveScope := .writtenOnly

/-- `RO_WRITE_POLICY`, at the spec's default. DESIGN CHOICE of the spec (D5); unsafe, log 12. -/
def roWritePolicy : RoWritePolicy := .ignore

/-- `PREEMPT`, at the spec's default. DESIGN CHOICE of the spec (D2); unsafe, log 13. -/
def preempt : Preempt := .phase

/-- `SCAN_THRESH(s)`, at the spec's default `255 - s`. DESIGN CHOICE of the spec (D37); unsafe, log 14. -/
def scanThresh (s : Byte) : Nat := 255 - s.toNat

/-- The register file at power-on (10_state.md section 9): the firmware version, the two speeds, the
button-enable byte of `BTNEN_RESET`, and 0 elsewhere (decision D16; log 10). -/
def rfPowerOn : RegFile :=
  Vector.ofFn fun i : Fin nReg =>
    match i.val with
    | 0 => fwVersion.extractLsb' 0 8
    | 1 => fwVersion.extractLsb' 8 8
    | 17 => rspeedReset
    | 18 => sspeedReset
    | 20 => if btnEnReset then 1 else 0
    | _ => 0

end Config

end Sys2Proof
end

