-- ==== Sys2Proof/Machine/State.lean ====
section
/-! DEFINITION. The state of the block (10_state.md), the environment's plain data beside it, the reasons a
step can stop, and the state at power-on. -/

namespace Sys2Proof.Machine

/-- The alphabet of the line trace `WIRE` (R160). -/
inductive Sym where
  /-- one "0" pulse -/
  | s0
  /-- one "1" pulse -/
  | s1
  /-- the end of a frame -/
  | gap
deriving DecidableEq, Repr

/-- The scanner's direction flag `DIR` (R20). -/
inductive Dir where
  /-- 0: position increasing -/
  | forward
  /-- 1: position decreasing -/
  | backward
deriving DecidableEq, Repr

/-- Where agent TICK stands inside a phase whose pseudocode a bus operation may cut (R154): at `PREEMPT = phase`
always at a phase boundary. The model's own (log 13). -/
inductive Inside where
  /-- at the start of the phase `PH` names -/
  | boundary
  /-- in BUTTON, after the edge test and before the read of `MODE` (R142) -/
  | pressed
  /-- in BUTTON, after the read of `MODE`, which gave `m`, and before its write (R142) -/
  | advancing (m : Byte)
  /-- in RENDER, after the latch of `MODE` and before the mode rule (R120) -/
  | latched
deriving DecidableEq, Repr

/-- The environment's answers, in the order they will be asked for (R8, R9); the model's own fields, not the
block's (log 7, log 8). Where a list is empty the answer is a free value of `Config`, told apart from the
others by the counter `draws`. -/
structure Env where
  /-- which agent moves at the coming step boundaries (R46, R174) -/
  turns : List Agent
  /-- the host's bus operations, oldest first; the head may already be pending in the bus peripheral
  (R39, R173) -/
  hostOps : List BusWord
  /-- `TouchSample` (R110) -/
  touch : List Count
  /-- `ButtonSample` (R140) -/
  button : List Bool
  /-- `GpioSample` (R9) -/
  gpio : List (BitVec 4)
  /-- `Strap` (R9) -/
  strap : List Bool
  /-- `BusLinesHigh` (R9) -/
  busHigh : List Bool
  /-- the time that passes before each reading of `Now` (R9, R178) -/
  elapsed : List Ticks
  /-- `draw(u8)` (R41) -/
  bytes : List Byte
  /-- how many free values have been taken -/
  draws : Nat
deriving DecidableEq, Repr

/-- The whole state. -/
structure State where
  /-- the boot step to run next, or none once boot has ended (R190; log 6) -/
  boot : Option BootStep
  /-- the result of the bus self-check, kept until ENABLE (R194, R196; log 6) -/
  ok : Bool
  /-- `MODE` (R11) -/
  mode : Byte
  /-- `LEVEL` (R12) -/
  level : Byte
  /-- `RSPEED` (R13) -/
  rspeed : Byte
  /-- `SSPEED` (R14) -/
  sspeed : Byte
  /-- `BTNEN` (R15) -/
  btnEn : Bool
  /-- `BTN_CUR` (R16) -/
  btnCur : Bool
  /-- `BTN_PREV` (R16) -/
  btnPrev : Bool
  /-- `BASE[0..4]` (R17) -/
  base : PerChannel Count
  /-- `DELTA[0..4]`, two's complement (R18) -/
  delta : PerChannel Count
  /-- `HUE` (R19) -/
  hue : Byte
  /-- `POS`, 0 to 4 in 3 bits (R20) -/
  pos : BitVec 3
  /-- `DIR` (R20) -/
  dir : Dir
  /-- `ACC` (R20) -/
  acc : Byte
  /-- `GPIO_MODE`: bit 0 IO1, bit 1 IO2, bit 2 E1, bit 3 E2 (R21) -/
  gpioMode : BitVec 4
  /-- `GPIO_OUT` (R21) -/
  gpioOut : BitVec 4
  /-- `GPIO_IN` (R21) -/
  gpioIn : BitVec 4
  /-- `PH`, the phase register (R22) -/
  ph : BitVec 3
  /-- how far the phase has got: the model's own field, moved at `PREEMPT = statement` only (log 13) -/
  inside : Inside
  /-- `LAST_TICK` (R22) -/
  lastTick : Ticks
  /-- `MLAT` (R22) -/
  mlat : Byte
  /-- `BUSMASK` (R23, R47) -/
  busMask : Bool
  /-- `BUS_EN` (R23) -/
  busEn : Bool
  /-- `STANDALONE` (R23) -/
  standalone : Bool
  /-- `BUF[0..14]` (R24) -/
  buf : Frame
  /-- `RF[0..35]` (R25) -/
  rf : RegFile
  /-- `WIRE`, the trace of the LED line (R160) -/
  wire : List Sym
  /-- the monotonic tick counter at its latest reading (R178; log 5) -/
  now : Ticks
  /-- the bytes returned to the host's reads, oldest first (R67, R95; log 9) -/
  replies : List Byte
  /-- the environment (log 7, log 8) -/
  env : Env
deriving DecidableEq, Repr

/-- Faults. The hardware raises none (R170); the one here stands for states no run reaches. -/
inductive Fault where
  /-- Raised by `M.SCAN_R`, `M.SCAN_G`, `M.SCAN_B` (and PH.RENDER in those modes) when the head would leave
  0 to 4, or stands above 4: unreachable from reset, and R135 forbids clamping. Safe (log 19). -/
  | scannerHeadLeft
deriving DecidableEq, Repr

/-- Refusals. -/
inductive Refusal where
  /-- Raised by `exec` for an instruction that has no meaning yet. Safe. -/
  | notModelled (mnemonic : String)
  /-- Raised by the `M.RESERVED` rows, and by PH.RENDER, PH.SNAPSHOT and PH.TRANSMIT of a tick whose dispatched
  mode is 8 to 255: "`refuse(reserved_mode)`: the spec gives them no meaning and a model must not invent
  one" (R72, R133). Safe (log 20). -/
  | reservedMode
  /-- Raised by `step` for a word that no row of the opcode table matches: never reached, since PH, a bus word
  and a boot step always decode (R76). Safe (log 26). -/
  | undecodable (reason : DecodeError)
deriving DecidableEq, Repr

/-- What an instruction answers. -/
abbrev Answer := Host.Outcome State Fault Refusal

/-- The environment at power-on: no script, no free value taken. DESIGN CHOICE; safe (log 7, log 8). -/
def Env.atPowerOn : Env where
  turns := []
  hostOps := []
  touch := []
  button := []
  gpio := []
  strap := []
  busHigh := []
  elapsed := []
  bytes := []
  draws := 0

/-- The block at power-on (10_state.md section 9), about to run boot step INIT. The values the spec does not give:
`base` (log 2), `standalone` (log 3), `lastTick` (log 4), `now` (log 5), `ok` (log 6), `replies` (log 9); `inside` is the model's own (log 13). -/
def State.reset : State where
  boot := some .init
  ok := false
  mode := 0
  level := 0
  rspeed := Config.rspeedReset
  sspeed := Config.sspeedReset
  btnEn := Config.btnEnReset
  btnCur := false
  btnPrev := false
  base := Config.basePowerOn
  delta := #v[0, 0, 0, 0, 0]
  hue := 0
  pos := 0
  dir := .forward
  acc := 0
  gpioMode := 0
  gpioOut := 0
  gpioIn := 0
  ph := 0
  inside := .boundary
  lastTick := 0
  mlat := 0
  busMask := false
  busEn := false
  standalone := false
  buf := #v[0, 0, 0, 0, 0, 0, 0, 0, 0, 0, 0, 0, 0, 0, 0]
  rf := Config.rfPowerOn
  wire := []
  now := 0
  replies := []
  env := Env.atPowerOn

end Sys2Proof.Machine
end

