-- ==== Sys2Proof/Machine/Operands.lean ====
section
/-! DEFINITION. Operand assembly and arithmetic (R63, R65, R69, R70): the decoding of register indices into
channels and colour bytes, the halves of a delta, saturating and wrapping byte arithmetic, and the
construction of frames. -/

namespace Sys2Proof.Machine

/-! ### Register indices (R63) -/

/-- The touch channel of a delta register, `(idx - 6) div 2`. -/
def channelOfIndex (idx : Nat) : Nat := (idx - 6) / 2

/-- The half of a delta register, `(idx - 6) mod 2`: 0 low, 1 high. -/
def halfOfIndex (idx : Nat) : Nat := (idx - 6) % 2

/-- The LED of a colour register, `(idx - 21) div 3`. -/
def ledOfIndex (idx : Nat) : Nat := (idx - 21) / Config.nChan

/-- The colour of a colour register, `(idx - 21) mod 3`: 0 green, 1 red, 2 blue. -/
def colourOfIndex (idx : Nat) : Nat := (idx - 21) % Config.nChan

/-- The register index of the low half of a channel's delta (R31). -/
def deltaLowIndex (i : Fin Config.nTouch) : Fin Config.nReg :=
  ⟨6 + 2 * i.val, by have h : i.val < 5 := i.isLt; show _ < 36; omega⟩

/-- The register index of the high half of a channel's delta (R31). -/
def deltaHighIndex (i : Fin Config.nTouch) : Fin Config.nReg :=
  ⟨7 + 2 * i.val, by have h : i.val < 5 := i.isLt; show _ < 36; omega⟩

/-- The two halves of a delta, `DELTA[i][7:0]` and `DELTA[i][15:8]` (R63). -/
def deltaLow (d : Count) : Byte := d.extractLsb' 0 8

@[inherit_doc deltaLow]
def deltaHigh (d : Count) : Byte := d.extractLsb' 8 8

/-- The bus address an operation is made at: `ADDR_ID` for the identity block, `ADDR_CTRL` for the control
surface (R40, R67). -/
def busAddress (w : BusWord) : Nat :=
  if BusWord.isIdentity w then Config.addrId else Config.addrCtrl

/-! ### Arithmetic (R8, R69, R70, R71) -/

/-- `sat_add8(a, k) = min(a + k, 255)` (R8). -/
def satAdd8 (a : Byte) (k : Nat) : Byte := BitVec.ofNat 8 (min (a.toNat + k) 255)

/-- `sat_sub8(a, k) = max(a - k, 0)` (R8); subtraction of naturals stops at 0. -/
def satSub8 (a : Byte) (k : Nat) : Byte := BitVec.ofNat 8 (a.toNat - k)

/-- The green byte of a lit LED in mode 1, `min(50 × L, 255)` (R69). -/
def levelGreen (l : Byte) : Byte := BitVec.ofNat 8 (min (Config.levelStep * l.toNat) 255)

/-- The red byte of a lit LED in mode 1, `max(255 - 50 × L, 0)` (R69). -/
def levelRed (l : Byte) : Byte := BitVec.ofNat 8 (255 - Config.levelStep * l.toNat)

/-- The hue argument of LED `i`, `wrap_8(HUE + i × RSPEED)`, the product on integers (R70). -/
def hueArg (hue rspeed : Byte) (i : Nat) : Byte := BitVec.ofNat 8 (hue.toNat + i * rspeed.toNat)

/-- The mode after an advance, `if MODE ≥ 7 then 1 else MODE + 1`, on integers (R71, R142). -/
def advanceMode (m : Byte) : Byte :=
  if Config.lastMode ≤ m.toNat then 1 else BitVec.ofNat 8 (m.toNat + 1)

/-- `DELTA[i] = s16(RAW[i] - BASE[i])` for every channel (R70, R112). -/
def deltasOf (raw base : PerChannel Count) : PerChannel Count :=
  Vector.ofFn fun i : Fin Config.nTouch => raw[i] - base[i]

/-! ### Frames (R24, R65) -/

/-- The byte of a colour at a channel offset: 0 green, 1 red, 2 blue (R24). -/
def rgbChannel (c : Rgb) : Nat → Byte
  | 0 => c.g
  | 1 => c.r
  | _ => c.b

/-- The frame that shows colour `c i` on LED `i`: byte `3i` green, `3i+1` red, `3i+2` blue (R24). -/
def grbFrame (c : Fin Config.nLed → Rgb) : Frame :=
  Vector.ofFn fun k : Fin Config.nBuf =>
    rgbChannel (c ⟨k.val / Config.nChan, Nat.div_lt_of_lt_mul k.isLt⟩) (k.val % Config.nChan)

/-- The 15 colour bytes of the register file, `RF[21..35]` (R37). -/
def ledBytes (rf : RegFile) : Frame :=
  Vector.ofFn fun k : Fin Config.nBuf => rf[21 + k.val]'(Nat.add_lt_add_left k.isLt 21)

/-- The register file with its 15 colour bytes replaced, `for k in 0..14: RF[21+k] <- BUF[k]` (R152). -/
def withLedBytes (rf : RegFile) (f : Frame) : RegFile :=
  Vector.ofFn fun i : Fin Config.nReg =>
    if h : 21 ≤ i.val then f[i.val - 21]'(Nat.sub_lt_left_of_lt_add h i.isLt) else rf[i]

/-- The bits of a byte in line order, bit 7 first (R65, R162). -/
def byteBits (b : Byte) : List Bool :=
  [7, 6, 5, 4, 3, 2, 1, 0].map fun j => b.getLsbD j

/-- The 120 bits of a frame in line order: byte 0 first, bit 7 of each byte first (R65). -/
def frameBits (f : Frame) : List Bool :=
  f.toList.flatMap byteBits

end Sys2Proof.Machine
end

