-- ==== Sys2Proof/Machine/Flags.lean ====
section
/-! DEFINITION. The one-bit state and the tests that set it (R23, R71): the enable flag, the press edge, the
threshold tests, the period test, the scanner's move and its direction, and the state of the GPIO pins. -/

namespace Sys2Proof.Machine

/-- `BTNEN` from the enable byte: enabled iff non-zero (R36, R92). -/
def enabledBy (v : Byte) : Bool := v != 0

/-- The press edge `BTN_CUR ∧ ¬BTN_PREV`, "computed and consumed inside phase BUTTON and never stored" (R23). -/
def pressEdge (prev cur : Bool) : Bool := cur && !prev

/-- The button status byte `{0b000000, BTN_PREV, BTN_CUR}` (R35, R150). -/
def buttonByte (prev cur : Bool) : Byte := (0 : BitVec 6) ++ (BitVec.ofBool prev ++ BitVec.ofBool cur)

/-- `DELTA[i] > 1900`, signed, strict (R112). -/
def exceedsLevel (d : Count) : Bool := decide (Config.thLevel < d.toInt)

/-- `DELTA[i] > 2000`, signed, strict (R114). -/
def exceedsActive (d : Count) : Bool := decide (Config.thActive < d.toInt)

/-- The channel that wins the ascending scan of R112: a later hit overwrites an earlier one. -/
def lastHit (d : PerChannel Count) : Option (Fin Config.nTouch) :=
  (List.finRange Config.nTouch).foldl (fun hit i => if exceedsLevel d[i] then some i else hit) none

/-- `LEVEL` after phase TOUCH: the winning channel, or the old level when no channel exceeds (R112). -/
def levelAfter (d : PerChannel Count) (old : Byte) : Byte :=
  match lastHit d with
  | some i => BitVec.ofNat 8 i.val
  | none => old

/-- `wrap_TICK_W(t - LAST_TICK) ≥ TICK_MS × TICK_UNIT` (R70, R146). -/
def periodElapsed (t last : Ticks) : Bool :=
  decide (Config.tickMs * Config.tickUnit ≤ (t - last).toNat)

/-! ### The scanner (R126, R127) -/

/-- `ACC > 255 - SSPEED` for the accumulator after its increment, on integers, strict (R127). -/
def headMoves (acc sspeed : Byte) : Bool := decide (Config.scanThresh sspeed < (acc + 1).toNat)

/-- The position of the last LED, `N_LED - 1` = 4, as the scanner's head holds it (R20). -/
abbrev lastLed : BitVec 3 := BitVec.ofNat 3 (Config.nLed - 1)

/-- The head and direction after one move: forward to at most 4, where the direction flips to backward, and
backward to at least 0, where it flips to forward (R126). None where the move would leave 0 to 4. -/
def movedHead (pos : BitVec 3) (dir : Dir) : Option (BitVec 3 × Dir) :=
  if lastLed.toNat < pos.toNat then none
  else
    match dir with
    | .forward =>
      if pos = lastLed then none else some (pos + 1, if pos + 1 = lastLed then .backward else .forward)
    | .backward =>
      if pos = 0 then none else some (pos - 1, if pos - 1 = 0 then .forward else .backward)

/-! ### The GPIO pins (R27, R29, R83, R85; log 18) -/

/-- What the block does to a GPIO pin. -/
inductive Pin where
  /-- the pin is an output at this level -/
  | driven (level : Bool)
  /-- the pin is an input, pulled to this level -/
  | pulled (level : Bool)
deriving DecidableEq, Repr

/-- Whether pin `i` is an output: its mode bit read as `GPIO_DIR_ONE_IS_OUTPUT` says (R27). -/
def State.pinIsOutput (s : State) (i : Fin 4) : Bool :=
  s.gpioMode.getLsbD i == Config.gpioDirOneIsOutput

/-- Pin `i` (0 IO1, 1 IO2, 2 E1, 3 E2) as the runtime registers hold it at this step boundary. -/
def State.pin (s : State) (i : Fin 4) : Pin :=
  if s.pinIsOutput i then .driven (s.gpioOut.getLsbD i) else .pulled Config.gpioPull

end Sys2Proof.Machine
end

