-- ==== Sys2Proof/Machine/Ops.lean ====
section
/-! DEFINITION. The shared operations: the environment's answers, the register file, the critical section, the
host's reads and writes, the delivery of a bus event, the line, and the sequencing of two operations. -/

namespace Sys2Proof.Machine

/-! ### The environment's answers (R9): the script's next one, or a free value -/

/-- The same environment with one more free value taken. -/
def Env.drawn (e : Env) : Env := { e with draws := e.draws + 1 }

/-- `TouchSample(c, iters)` (R110). -/
def Env.takeTouch (c iters : Nat) (e : Env) : Count × Env :=
  match e.touch with
  | x :: xs => (x, { e with touch := xs })
  | [] => (Config.freeTouch c iters e.draws, e.drawn)

/-- `ButtonSample()` (R140). -/
def Env.takeButton (e : Env) : Bool × Env :=
  match e.button with
  | x :: xs => (x, { e with button := xs })
  | [] => (Config.freeButton e.draws, e.drawn)

/-- `GpioSample()` (R9). -/
def Env.takeGpio (e : Env) : BitVec 4 × Env :=
  match e.gpio with
  | x :: xs => (x, { e with gpio := xs })
  | [] => (Config.freeGpio e.draws, e.drawn)

/-- `Strap()` (R9). -/
def Env.takeStrap (e : Env) : Bool × Env :=
  match e.strap with
  | x :: xs => (x, { e with strap := xs })
  | [] => (Config.freeStrap e.draws, e.drawn)

/-- `BusLinesHigh()` (R9). -/
def Env.takeBusHigh (e : Env) : Bool × Env :=
  match e.busHigh with
  | x :: xs => (x, { e with busHigh := xs })
  | [] => (Config.freeBusHigh e.draws, e.drawn)

/-- The time that passes before a reading of `Now()` (R9). -/
def Env.takeElapsed (e : Env) : Ticks × Env :=
  match e.elapsed with
  | x :: xs => (x, { e with elapsed := xs })
  | [] => (Config.freeElapsed e.draws, e.drawn)

/-- `draw(u8)` (R41). -/
def Env.takeByte (e : Env) : Byte × Env :=
  match e.bytes with
  | x :: xs => (x, { e with bytes := xs })
  | [] => (Config.freeByte e.draws, e.drawn)

/-- Which agent moves next (R46, R174). -/
def Env.takeTurn (e : Env) : Agent × Env :=
  match e.turns with
  | x :: xs => (x, { e with turns := xs })
  | [] => (Config.freeTurn e.draws, e.drawn)

/-- The host's next bus operation, in the order the host issued them (R46). -/
def Env.takeHostOp (e : Env) : BusWord × Env :=
  match e.hostOps with
  | x :: xs => (x, { e with hostOps := xs })
  | [] => (Config.freeHostOp e.draws, e.drawn)

/-- `TouchSample(c, iters)` for channels 0 to 4, ascending (R111, R112). -/
def Env.takeFive (iters : Nat) (e : Env) : PerChannel Count × Env :=
  let a := e.takeTouch 0 iters
  let b := a.2.takeTouch 1 iters
  let c := b.2.takeTouch 2 iters
  let d := c.2.takeTouch 3 iters
  let f := d.2.takeTouch 4 iters
  (#v[a.1, b.1, c.1, d.1, f.1], f.2)

/-! ### State updates -/

/-- `RF[i] <- v`. -/
def State.setRf (i : Fin Config.nReg) (v : Byte) (s : State) : State := { s with rf := s.rf.set i v }

/-- Return a byte to the host (R67; log 9). -/
def State.reply (b : Byte) (s : State) : State := { s with replies := s.replies ++ [b] }

/-- `emit(x)`: append to `WIRE` (R160). -/
def State.emit (x : Sym) (s : State) : State := { s with wire := s.wire ++ [x] }

/-- `t <- Now()`: time passes, then the counter is read (R9, R178; log 5). -/
def State.readNow (s : State) : State :=
  { s with now := s.now + s.env.takeElapsed.1, env := s.env.takeElapsed.2 }

/-- A wait of a fixed duration: the counter moves on by it (R191, R195; log 15). -/
def State.wait (d : Ticks) (s : State) : State := { s with now := s.now + d }

/-- `crit { body }`: `BUSMASK <- 1; body; BUSMASK <- 0` (R47). -/
def State.crit (body : State → State) (s : State) : State :=
  { body { s with busMask := true } with busMask := false }

/-- One operation after another: a stop of the first is the answer. -/
def andThen (a : Answer) (k : State → State) : Answer :=
  match a with
  | .next s => .next (k s)
  | .fault f => .fault f
  | .refused r => .refused r

/-! ### The host's writes (R81) -/

/-- Every runtime register a bus write may re-derive, from the register file (R81, `REDERIVE_SCOPE = all`). -/
def State.rederiveAll (s : State) : State :=
  { s with
    gpioMode := s.rf[2].setWidth 4
    gpioOut := s.rf[4].setWidth 4
    mode := s.rf[5]
    level := s.rf[16]
    rspeed := s.rf[17]
    sspeed := s.rf[18]
    btnEn := enabledBy s.rf[20] }

/-- What follows a host write to a writable index beside that index's own re-derivation (R81). -/
def State.rederiveRest (s : State) : State :=
  match Config.rederiveScope with
  | .writtenOnly => s
  | .all => s.rederiveAll

/-- A host write to a writable index: store the byte, re-derive the register that depends on it (R81). -/
def State.hostWrite (i : Fin Config.nReg) (v : Byte) (own : State → State) (s : State) : State :=
  (own (s.setRf i v)).rederiveRest

/-- A host write to a read-only index (R81, decision D5). -/
def State.hostWriteReadOnly (i : Fin Config.nReg) (v : Byte) (s : State) : State :=
  match Config.roWritePolicy with
  | .ignore => s
  | .storeUntilNextPublish => s.setRf i v

/-- A host write to a colour byte: writable while `MODE = 0`, read-only otherwise (R93). -/
def State.hostWriteLed (i : Fin Config.nReg) (v : Byte) (s : State) : State :=
  if s.mode = 0 then s.hostWrite i v id else s.hostWriteReadOnly i v

/-! ### The host's reads (R95) -/

/-- A host read of a mapped index: return `RF[idx]`, change no state (R95). -/
def State.hostRead (i : Fin Config.nReg) (s : State) : State := s.reply s.rf[i]

/-- A host read that the spec answers with `draw(u8)` (R108, R109). -/
def State.hostReadDraw (s : State) : State :=
  { s.reply s.env.takeByte.1 with env := s.env.takeByte.2 }

/-! ### The bus-event interrupt (R172 to R176) -/

/-- Whether a bus operation may be performed at this step boundary (R80). -/
def State.busReady (s : State) : Bool := s.busEn && !s.busMask

/-- Delivery of a bus event: the pending operation is taken, in the host's order, and nothing is saved or
changed: "Entry saves nothing that the architecture can see, changes no mode or mask and uses no vector
table" (R175). The return likewise restores nothing (R176), so it is no operation here (log 28). -/
def State.deliverBusEvent (s : State) : BusWord × State :=
  (s.env.takeHostOp.1, { s with env := s.env.takeHostOp.2 })

end Sys2Proof.Machine
end

