-- ==== Sys2Proof/Machine/Serializer.lean ====
section
/-! DEFINITION. The LED one-wire serializer (45_led_serializer.md): the two line symbols, the frame operation
SEND, and the level of the line over time that the trace `WIRE` stands for. -/

namespace Sys2Proof.Machine

/-- The symbol of a data bit (R162). -/
def symOf (bit : Bool) : Sym := if bit then .s1 else .s0

/-- `SYM.S0` (R164; log 27). -/
def execSymS0 (s : State) : Answer := .next (s.emit .s0)

/-- `SYM.S1` (R163; log 27). -/
def execSymS1 (s : State) : Answer := .next (s.emit .s1)

/-- What `SEND(b0, ..., b14)` puts on the line: a symbol for each bit of the frame, then `GAP` (R161). -/
def frameSymbols (f : Frame) : List Sym := (frameBits f).map symOf ++ [.gap]

/-- `SEND(b0, ..., b14)` (R161). -/
def State.sendFrame (f : Frame) (s : State) : State := { s with wire := s.wire ++ frameSymbols f }

/-- The level of `LINE` over the symbol that stands at place `n` of the trace, as levels and durations in order:
high then low for a pulse (R163, R164), low for at least `T_RESET` for a gap (R168, R169; log 16). -/
def Sym.pulse (n : Nat) : Sym → List (Bool × Nat)
  | .s0 => [(true, Config.t0h), (false, Config.t0l)]
  | .s1 => [(true, Config.t1h), (false, Config.t1l)]
  | .gap => [(false, Config.tReset + Config.gapExcess n)]

/-- The level of `LINE` over the whole trace (R160). -/
def State.line (s : State) : List (Bool × Nat) := s.wire.zipIdx.flatMap fun p => p.1.pulse p.2

end Sys2Proof.Machine
end

