-- ==== Sys2Proof/Machine/Boot.lean ====
section
/-! DEFINITION. The six boot steps (70_reset_and_hazards.md): one meaning per row `BOOT.*`. Each sets `boot` to
the step that follows it (R190; log 6). -/

namespace Sys2Proof.Machine

/-- `RF[0] <- FW_VERSION[7:0] ; RF[1] <- FW_VERSION[15:8]` (R191). -/
def State.publishVersion (s : State) : State :=
  (s.setRf 0 (Config.fwVersion.extractLsb' 0 8)).setRf 1 (Config.fwVersion.extractLsb' 8 8)

/-- Every register of 10_state.md section 9 at its power-on value. The registers whose power-on value that table
does not give keep theirs, and so do the counter, the host's replies and the environment (log 25). -/
def State.poweredOn (s : State) : State :=
  { State.reset with
    base := s.base
    standalone := s.standalone
    lastTick := s.lastTick
    ok := s.ok
    now := s.now
    replies := s.replies
    env := s.env }

/-- The two speed registers and their runtime copies (R191). -/
def State.resetSpeeds (s : State) : State :=
  let s := { s.setRf 17 Config.rspeedReset with rspeed := Config.rspeedReset }
  { s.setRf 18 Config.sspeedReset with sspeed := Config.sspeedReset }

/-- `BOOT.INIT` (R191). -/
def execBootInit (s : State) : Answer :=
  .next { ((s.poweredOn.resetSpeeds.crit State.publishVersion).wait Config.tStartup) with boot := some .strap }

/-- `MODE <- 1 ; RF[5] <- 1 ; BTNEN <- 1 ; RF[20] <- 1` (R192). -/
def State.forceStandalone (s : State) : State :=
  { (s.setRf 5 1).setRf 20 1 with mode := 1, btnEn := true }

/-- `BOOT.STRAP` (R192). -/
def execBootStrap (s : State) : Answer :=
  let t := { s with standalone := s.env.takeStrap.1, env := s.env.takeStrap.2, boot := some .calibrate }
  .next (if t.standalone then t.forceStandalone else t)

/-- `BOOT.CALIBRATE` (R111, R193). -/
def execBootCalibrate (s : State) : Answer :=
  .next { s with
    base := (s.env.takeFive Config.calIter).1
    env := (s.env.takeFive Config.calIter).2
    boot := some .selfcheck }

/-- `BOOT.SELFCHECK` (R194). -/
def execBootSelfcheck (s : State) : Answer :=
  .next { s with
    ok := s.env.takeBusHigh.1
    env := s.env.takeBusHigh.2
    boot := if s.env.takeBusHigh.1 then some .enable else some .fallback }

/-- `BOOT.FALLBACK` (R195). -/
def execBootFallback (s : State) : Answer :=
  .next { ((s.crit (State.sendFrame Config.fallback)).wait Config.tFallbackPause) with boot := some .enable }

/-- `BOOT.ENABLE` (R196). -/
def execBootEnable (s : State) : Answer :=
  .next { s.readNow with
    busEn := if s.ok then true else s.busEn
    lastTick := s.readNow.now
    ph := 0
    boot := none }

end Sys2Proof.Machine
end

