-- ==== Sys2Proof/Machine/HostRead.lean ====
section
/-! DEFINITION. The host's reads (40_register_bus.md R95 to R108): one meaning per row `RD.*`. -/

namespace Sys2Proof.Machine

/-- `RD.FWLO` (R96). -/
def execRdFwlo (s : State) : Answer := .next (s.hostRead 0)

/-- `RD.FWHI` (R96). -/
def execRdFwhi (s : State) : Answer := .next (s.hostRead 1)

/-- `RD.GPIOMODE` (R97). -/
def execRdGpiomode (s : State) : Answer := .next (s.hostRead 2)

/-- `RD.GPIOIN` (R98). -/
def execRdGpioin (s : State) : Answer := .next (s.hostRead 3)

/-- `RD.GPIOOUT` (R99). -/
def execRdGpioout (s : State) : Answer := .next (s.hostRead 4)

/-- `RD.MODE` (R100). -/
def execRdMode (s : State) : Answer := .next (s.hostRead 5)

/-- `RD.TDELTA0L` (R101). -/
def execRdTdelta0L (s : State) : Answer := .next (s.hostRead 6)

/-- `RD.TDELTA0H` (R101). -/
def execRdTdelta0H (s : State) : Answer := .next (s.hostRead 7)

/-- `RD.TDELTA1L` (R101). -/
def execRdTdelta1L (s : State) : Answer := .next (s.hostRead 8)

/-- `RD.TDELTA1H` (R101). -/
def execRdTdelta1H (s : State) : Answer := .next (s.hostRead 9)

/-- `RD.TDELTA2L` (R101). -/
def execRdTdelta2L (s : State) : Answer := .next (s.hostRead 10)

/-- `RD.TDELTA2H` (R101). -/
def execRdTdelta2H (s : State) : Answer := .next (s.hostRead 11)

/-- `RD.TDELTA3L` (R101). -/
def execRdTdelta3L (s : State) : Answer := .next (s.hostRead 12)

/-- `RD.TDELTA3H` (R101). -/
def execRdTdelta3H (s : State) : Answer := .next (s.hostRead 13)

/-- `RD.TDELTA4L` (R101). -/
def execRdTdelta4L (s : State) : Answer := .next (s.hostRead 14)

/-- `RD.TDELTA4H` (R101). -/
def execRdTdelta4H (s : State) : Answer := .next (s.hostRead 15)

/-- `RD.LEVEL` (R102). -/
def execRdLevel (s : State) : Answer := .next (s.hostRead 16)

/-- `RD.RSPEED` (R103). -/
def execRdRspeed (s : State) : Answer := .next (s.hostRead 17)

/-- `RD.SSPEED` (R104). -/
def execRdSspeed (s : State) : Answer := .next (s.hostRead 18)

/-- `RD.BTNSTATE` (R105). -/
def execRdBtnstate (s : State) : Answer := .next (s.hostRead 19)

/-- `RD.BTNEN` (R106). -/
def execRdBtnen (s : State) : Answer := .next (s.hostRead 20)

/-- `RD.LED0G` (R107). -/
def execRdLed0G (s : State) : Answer := .next (s.hostRead 21)

/-- `RD.LED0R` (R107). -/
def execRdLed0R (s : State) : Answer := .next (s.hostRead 22)

/-- `RD.LED0B` (R107). -/
def execRdLed0B (s : State) : Answer := .next (s.hostRead 23)

/-- `RD.LED1G` (R107). -/
def execRdLed1G (s : State) : Answer := .next (s.hostRead 24)

/-- `RD.LED1R` (R107). -/
def execRdLed1R (s : State) : Answer := .next (s.hostRead 25)

/-- `RD.LED1B` (R107). -/
def execRdLed1B (s : State) : Answer := .next (s.hostRead 26)

/-- `RD.LED2G` (R107). -/
def execRdLed2G (s : State) : Answer := .next (s.hostRead 27)

/-- `RD.LED2R` (R107). -/
def execRdLed2R (s : State) : Answer := .next (s.hostRead 28)

/-- `RD.LED2B` (R107). -/
def execRdLed2B (s : State) : Answer := .next (s.hostRead 29)

/-- `RD.LED3G` (R107). -/
def execRdLed3G (s : State) : Answer := .next (s.hostRead 30)

/-- `RD.LED3R` (R107). -/
def execRdLed3R (s : State) : Answer := .next (s.hostRead 31)

/-- `RD.LED3B` (R107). -/
def execRdLed3B (s : State) : Answer := .next (s.hostRead 32)

/-- `RD.LED4G` (R107). -/
def execRdLed4G (s : State) : Answer := .next (s.hostRead 33)

/-- `RD.LED4R` (R107). -/
def execRdLed4R (s : State) : Answer := .next (s.hostRead 34)

/-- `RD.LED4B` (R107). -/
def execRdLed4B (s : State) : Answer := .next (s.hostRead 35)

/-- `RD.UNMAPPED.36_39`: `draw(u8)` (R108). -/
def execRdUnmapped36_39 (_idx : Byte) (s : State) : Answer := .next s.hostReadDraw

/-- `RD.UNMAPPED.40_47`: `draw(u8)` (R108). -/
def execRdUnmapped40_47 (_idx : Byte) (s : State) : Answer := .next s.hostReadDraw

/-- `RD.UNMAPPED.48_63`: `draw(u8)` (R108). -/
def execRdUnmapped48_63 (_idx : Byte) (s : State) : Answer := .next s.hostReadDraw

/-- `RD.UNMAPPED.64_127`: `draw(u8)` (R108). -/
def execRdUnmapped64_127 (_idx : Byte) (s : State) : Answer := .next s.hostReadDraw

/-- `RD.UNMAPPED.128_255`: `draw(u8)` (R108). -/
def execRdUnmapped128_255 (_idx : Byte) (s : State) : Answer := .next s.hostReadDraw

end Sys2Proof.Machine
end

