-- ==== Sys2Proof/Machine/HostWrite.lean ====
section
/-! DEFINITION. The host's writes (40_register_bus.md R82 to R94): one meaning per row `WR.*`. -/

namespace Sys2Proof.Machine

/-- `WR.FWLO`: read-only to the host (R82). -/
def execWrFwlo (v : Byte) (s : State) : Answer := .next (s.hostWriteReadOnly 0 v)

/-- `WR.FWHI`: read-only to the host (R82). -/
def execWrFwhi (v : Byte) (s : State) : Answer := .next (s.hostWriteReadOnly 1 v)

/-- `WR.GPIOMODE`: `RF[2] <- val; GPIO_MODE <- val[3:0]`; the pins follow at once (`State.pin`) (R83). -/
def execWrGpiomode (v : Byte) (s : State) : Answer :=
  .next (s.hostWrite 2 v fun s => { s with gpioMode := v.setWidth 4 })

/-- `WR.GPIOIN`: read-only to the host (R84). -/
def execWrGpioin (v : Byte) (s : State) : Answer := .next (s.hostWriteReadOnly 3 v)

/-- `WR.GPIOOUT`: `RF[4] <- val; GPIO_OUT <- val[3:0]`; output pins follow at once (`State.pin`) (R85). -/
def execWrGpioout (v : Byte) (s : State) : Answer :=
  .next (s.hostWrite 4 v fun s => { s with gpioOut := v.setWidth 4 })

/-- `WR.MODE`: `RF[5] <- val; MODE <- val`, any byte (R86). -/
def execWrMode (v : Byte) (s : State) : Answer :=
  .next (s.hostWrite 5 v fun s => { s with mode := v })

/-- `WR.TDELTA0L`: read-only to the host (R87). -/
def execWrTdelta0L (v : Byte) (s : State) : Answer := .next (s.hostWriteReadOnly 6 v)

/-- `WR.TDELTA0H`: read-only to the host (R87). -/
def execWrTdelta0H (v : Byte) (s : State) : Answer := .next (s.hostWriteReadOnly 7 v)

/-- `WR.TDELTA1L`: read-only to the host (R87). -/
def execWrTdelta1L (v : Byte) (s : State) : Answer := .next (s.hostWriteReadOnly 8 v)

/-- `WR.TDELTA1H`: read-only to the host (R87). -/
def execWrTdelta1H (v : Byte) (s : State) : Answer := .next (s.hostWriteReadOnly 9 v)

/-- `WR.TDELTA2L`: read-only to the host (R87). -/
def execWrTdelta2L (v : Byte) (s : State) : Answer := .next (s.hostWriteReadOnly 10 v)

/-- `WR.TDELTA2H`: read-only to the host (R87). -/
def execWrTdelta2H (v : Byte) (s : State) : Answer := .next (s.hostWriteReadOnly 11 v)

/-- `WR.TDELTA3L`: read-only to the host (R87). -/
def execWrTdelta3L (v : Byte) (s : State) : Answer := .next (s.hostWriteReadOnly 12 v)

/-- `WR.TDELTA3H`: read-only to the host (R87). -/
def execWrTdelta3H (v : Byte) (s : State) : Answer := .next (s.hostWriteReadOnly 13 v)

/-- `WR.TDELTA4L`: read-only to the host (R87). -/
def execWrTdelta4L (v : Byte) (s : State) : Answer := .next (s.hostWriteReadOnly 14 v)

/-- `WR.TDELTA4H`: read-only to the host (R87). -/
def execWrTdelta4H (v : Byte) (s : State) : Answer := .next (s.hostWriteReadOnly 15 v)

/-- `WR.LEVEL`: `RF[16] <- val; LEVEL <- val`, any byte (R88). -/
def execWrLevel (v : Byte) (s : State) : Answer :=
  .next (s.hostWrite 16 v fun s => { s with level := v })

/-- `WR.RSPEED`: `RF[17] <- val; RSPEED <- val` (R89). -/
def execWrRspeed (v : Byte) (s : State) : Answer :=
  .next (s.hostWrite 17 v fun s => { s with rspeed := v })

/-- `WR.SSPEED`: `RF[18] <- val; SSPEED <- val`; `ACC` is not touched (R90). -/
def execWrSspeed (v : Byte) (s : State) : Answer :=
  .next (s.hostWrite 18 v fun s => { s with sspeed := v })

/-- `WR.BTNSTATE`: read-only to the host (R91). -/
def execWrBtnstate (v : Byte) (s : State) : Answer := .next (s.hostWriteReadOnly 19 v)

/-- `WR.BTNEN`: `RF[20] <- val; BTNEN <- (val ≠ 0)` (R92). -/
def execWrBtnen (v : Byte) (s : State) : Answer :=
  .next (s.hostWrite 20 v fun s => { s with btnEn := enabledBy v })

/-- `WR.LED0G` (R93). -/
def execWrLed0G (v : Byte) (s : State) : Answer := .next (s.hostWriteLed 21 v)

/-- `WR.LED0R` (R93). -/
def execWrLed0R (v : Byte) (s : State) : Answer := .next (s.hostWriteLed 22 v)

/-- `WR.LED0B` (R93). -/
def execWrLed0B (v : Byte) (s : State) : Answer := .next (s.hostWriteLed 23 v)

/-- `WR.LED1G` (R93). -/
def execWrLed1G (v : Byte) (s : State) : Answer := .next (s.hostWriteLed 24 v)

/-- `WR.LED1R` (R93). -/
def execWrLed1R (v : Byte) (s : State) : Answer := .next (s.hostWriteLed 25 v)

/-- `WR.LED1B` (R93). -/
def execWrLed1B (v : Byte) (s : State) : Answer := .next (s.hostWriteLed 26 v)

/-- `WR.LED2G` (R93). -/
def execWrLed2G (v : Byte) (s : State) : Answer := .next (s.hostWriteLed 27 v)

/-- `WR.LED2R` (R93). -/
def execWrLed2R (v : Byte) (s : State) : Answer := .next (s.hostWriteLed 28 v)

/-- `WR.LED2B` (R93). -/
def execWrLed2B (v : Byte) (s : State) : Answer := .next (s.hostWriteLed 29 v)

/-- `WR.LED3G` (R93). -/
def execWrLed3G (v : Byte) (s : State) : Answer := .next (s.hostWriteLed 30 v)

/-- `WR.LED3R` (R93). -/
def execWrLed3R (v : Byte) (s : State) : Answer := .next (s.hostWriteLed 31 v)

/-- `WR.LED3B` (R93). -/
def execWrLed3B (v : Byte) (s : State) : Answer := .next (s.hostWriteLed 32 v)

/-- `WR.LED4G` (R93). -/
def execWrLed4G (v : Byte) (s : State) : Answer := .next (s.hostWriteLed 33 v)

/-- `WR.LED4R` (R93). -/
def execWrLed4R (v : Byte) (s : State) : Answer := .next (s.hostWriteLed 34 v)

/-- `WR.LED4B` (R93). -/
def execWrLed4B (v : Byte) (s : State) : Answer := .next (s.hostWriteLed 35 v)

/-- `WR.UNMAPPED.36_39`: ignored (R94). -/
def execWrUnmapped36_39 (_idx _v : Byte) (s : State) : Answer := .next s

/-- `WR.UNMAPPED.40_47`: ignored (R94). -/
def execWrUnmapped40_47 (_idx _v : Byte) (s : State) : Answer := .next s

/-- `WR.UNMAPPED.48_63`: ignored (R94). -/
def execWrUnmapped48_63 (_idx _v : Byte) (s : State) : Answer := .next s

/-- `WR.UNMAPPED.64_127`: ignored (R94). -/
def execWrUnmapped64_127 (_idx _v : Byte) (s : State) : Answer := .next s

/-- `WR.UNMAPPED.128_255`: ignored (R94). -/
def execWrUnmapped128_255 (_idx _v : Byte) (s : State) : Answer := .next s

end Sys2Proof.Machine
end

