-- ==== Sys2Proof/Machine/Identity.lean ====
section
/-! DEFINITION. The identity block (R109): one meaning for each of the rows `IDRD` and `IDWR`. -/

namespace Sys2Proof.Machine

/-- `IDRD`: `ID[off]` for `off < ID_LEN`, `draw(u8)` otherwise; no state change (R109). -/
def execIdRd (off : Byte) (s : State) : Answer :=
  .next (match Config.identity[off.toNat]? with
    | some b => s.reply b
    | none => s.hostReadDraw)

/-- `IDWR`: no state change, "never written by host" (R109). -/
def execIdWr (_off _v : Byte) (s : State) : Answer := .next s

end Sys2Proof.Machine
end

