-- ==== Sys2Proof/Machine/Render.lean ====
section
/-! DEFINITION. The render modes (42_mode_render.md): one meaning per row `M.*`, the scanner step they share,
and the dispatch on the mode byte. A mode's meaning is its mode rule alone; latching `MLAT` and moving
`PH` are PH.RENDER's (R120; log 27). -/

namespace Sys2Proof.Machine

/-- `M.PASS`, mode 0: no operation (R121). -/
def execMPass (s : State) : Answer := .next s

/-- The colour of LED `i` in mode 1 (R122). -/
def socialColour (level : Byte) (delta : PerChannel Count) (i : Fin Config.nLed) : Rgb where
  g := if level.toNat < i.val then 0 else levelGreen level
  r := if level.toNat < i.val then 0 else levelRed level
  b := if exceedsActive delta[i] then 255 else 0

/-- `M.SOCIAL`, mode 1 (R122). -/
def execMSocial (s : State) : Answer :=
  .next { s with buf := grbFrame (socialColour s.level s.delta) }

/-- `M.RAINBOW`, mode 2 (R123). -/
def execMRainbow (s : State) : Answer :=
  .next { s with
    buf := grbFrame fun i => Config.hsv2rgb (hueArg s.hue s.rspeed i.val) Config.hsvSat Config.hsvVal
    hue := s.hue + 1 }

/-- `M.PAL_A`, mode 3 (R124). -/
def execMPalA (s : State) : Answer :=
  .next { s with buf := grbFrame fun i => Config.paletteA[i] }

/-- `M.PAL_B`, mode 4 (R125). -/
def execMPalB (s : State) : Answer :=
  .next { s with buf := grbFrame fun i => Config.paletteB[i] }

/-- The frame after a scanner step with the head at `pos`: every byte decays by 10, then the head's byte at
channel offset `c` ramps by 50 (R128, R129). -/
def scanFrame (c : Nat) (pos : BitVec 3) (buf : Frame) : Frame :=
  Vector.ofFn fun k : Fin Config.nBuf =>
    if k.val = Config.nChan * pos.toNat + c then satAdd8 (satSub8 buf[k] Config.decayStep) Config.rampStep
    else satSub8 buf[k] Config.decayStep

/-- The state after a scanner step that leaves the head at `pos`, `dir` and the accumulator at `acc`. -/
def State.scanned (c : Nat) (pos : BitVec 3) (dir : Dir) (acc : Byte) (s : State) : State :=
  { s with buf := scanFrame c pos s.buf, pos := pos, dir := dir, acc := acc }

/-- `SCAN(c)`: decay, advance and move, ramp (R126). A head that would leave 0 to 4, or stands above 4, stops
the step: R135 forbids clamping (log 19). -/
def scan (c : Nat) (s : State) : Answer :=
  match movedHead s.pos s.dir with
  | some head =>
    .next (if headMoves s.acc s.sspeed then s.scanned c head.1 head.2 0
      else s.scanned c s.pos s.dir (s.acc + 1))
  | none =>
    if headMoves s.acc s.sspeed || decide (lastLed.toNat < s.pos.toNat) then .fault .scannerHeadLeft
    else .next (s.scanned c s.pos s.dir (s.acc + 1))

/-- `M.SCAN_R`, mode 5: the ramp goes to the red byte, offset 1 (R130). -/
def execMScanR (s : State) : Answer := scan 1 s

/-- `M.SCAN_G`, mode 6: the ramp goes to the green byte, offset 0 (R131). -/
def execMScanG (s : State) : Answer := scan 0 s

/-- `M.SCAN_B`, mode 7: the ramp goes to the blue byte, offset 2 (R132). -/
def execMScanB (s : State) : Answer := scan 2 s

/-- `M.RESERVED.8_15`: "`refuse(reserved_mode)`" (R133; log 20). -/
def execMReserved8_15 (_m : Byte) (_s : State) : Answer := .refused .reservedMode

/-- `M.RESERVED.16_31` (R133; log 20). -/
def execMReserved16_31 (_m : Byte) (_s : State) : Answer := .refused .reservedMode

/-- `M.RESERVED.32_63` (R133; log 20). -/
def execMReserved32_63 (_m : Byte) (_s : State) : Answer := .refused .reservedMode

/-- `M.RESERVED.64_127` (R133; log 20). -/
def execMReserved64_127 (_m : Byte) (_s : State) : Answer := .refused .reservedMode

/-- `M.RESERVED.128_255` (R133; log 20). -/
def execMReserved128_255 (_m : Byte) (_s : State) : Answer := .refused .reservedMode

/-- The rule of a defined mode, 0 to `N_MODE - 1` (R120). -/
def renderDefined (m : Byte) (s : State) : Answer :=
  match m.toNat with
  | 0 => execMPass s
  | 1 => execMSocial s
  | 2 => execMRainbow s
  | 3 => execMPalA s
  | 4 => execMPalB s
  | 5 => execMScanR s
  | 6 => execMScanG s
  | _ => execMScanB s

/-- The rule of a reserved mode, by the block of the table it falls in (R133). -/
def renderReserved (m : Byte) (s : State) : Answer :=
  if m.toNat < 16 then execMReserved8_15 m s
  else if m.toNat < 32 then execMReserved16_31 m s
  else if m.toNat < 64 then execMReserved32_63 m s
  else if m.toNat < 128 then execMReserved64_127 m s
  else execMReserved128_255 m s

/-- The mode rule the mode byte selects (R120). -/
def renderMode (m : Byte) (s : State) : Answer :=
  if m.toNat < Config.nMode then renderDefined m s else renderReserved m s

end Sys2Proof.Machine
end

