-- ==== Sys2Proof/Machine/Sequencer.lean ====
section
/-! DEFINITION. The eight phases of the tick sequencer (44_tick_sequencer.md, 41_touch.md, 43_button.md): one
meaning per row `PH.*`. -/

namespace Sys2Proof.Machine

/-- `PH.WAIT` (R146). -/
def execPhWait (s : State) : Answer :=
  .next (if periodElapsed s.readNow.now s.lastTick
    then { s.readNow with lastTick := s.readNow.now, ph := 1 }
    else s.readNow)

/-- `PH.GPIO` (R147). -/
def execPhGpio (s : State) : Answer :=
  .next { s with gpioIn := s.env.takeGpio.1, env := s.env.takeGpio.2, ph := 2 }

/-- The state after phase TOUCH has taken the five samples `raw` (R112). -/
def State.touched (raw : PerChannel Count) (s : State) : State :=
  { s with
    delta := deltasOf raw s.base
    level := levelAfter (deltasOf raw s.base) s.level
    ph := 3 }

/-- `PH.TOUCH` (R112, R148). -/
def execPhTouch (s : State) : Answer :=
  .next { s.touched (s.env.takeFive Config.iterTick).1 with env := (s.env.takeFive Config.iterTick).2 }

/-- The state after phase BUTTON has taken the sample `b`: shift, then the edge test and the mode advance
(R141, R142). -/
def State.buttoned (b : Bool) (s : State) : State :=
  { s with
    btnPrev := s.btnCur
    btnCur := b
    mode := if pressEdge s.btnCur b && s.btnEn then advanceMode s.mode else s.mode
    ph := 4 }

/-- One piece of phase BUTTON between two places where a bus operation may fall at `PREEMPT = statement`: up to
the edge test, the read of `MODE`, its write (R142, R154; log 13). -/
def State.buttonPiece (s : State) : State :=
  match s.inside with
  | .pressed => { s with inside := .advancing s.mode }
  | .advancing m => { s with mode := advanceMode m, ph := 4, inside := .boundary }
  | .boundary | .latched =>
    let t := { s with btnPrev := s.btnCur, btnCur := s.env.takeButton.1, env := s.env.takeButton.2 }
    if pressEdge t.btnPrev t.btnCur && s.btnEn then { t with inside := .pressed }
    else { t with ph := 4, inside := .boundary }

/-- `PH.BUTTON` (R141, R142, R149): the whole phase, or one piece of it where `PREEMPT = statement` (R154). -/
def execPhButton (s : State) : Answer :=
  match Config.preempt with
  | .phase => .next { s.buttoned s.env.takeButton.1 with env := s.env.takeButton.2 }
  | .statement => .next s.buttonPiece

/-- The two register bytes of channel `i`, low byte first (R63, R150). -/
def publishDelta (delta : PerChannel Count) (i : Fin Config.nTouch) (rf : RegFile) : RegFile :=
  (rf.set (deltaLowIndex i) (deltaLow delta[i])).set (deltaHighIndex i) (deltaHigh delta[i])

/-- The register file after phase PUBLISH, the assignments in the order of R150. -/
def State.publishedRf (s : State) : RegFile :=
  let rf := (s.rf.set 3 (s.gpioIn.setWidth 8)).set 5 s.mode
  let rf := publishDelta s.delta 4 (publishDelta s.delta 3 (publishDelta s.delta 2
    (publishDelta s.delta 1 (publishDelta s.delta 0 rf))))
  (rf.set 16 s.level).set 19 (buttonByte s.btnPrev s.btnCur)

/-- The body of phase PUBLISH (R150). -/
def State.publish (s : State) : State := { s with rf := s.publishedRf }

/-- `PH.PUBLISH` (R150). -/
def execPhPublish (s : State) : Answer :=
  .next { s.crit State.publish with ph := 5 }

/-- One piece of phase RENDER between two places where a bus operation may fall at `PREEMPT = statement`: the
latch, then the rule of the latched mode, which reads each register of the host once (R120, R154; log 13). -/
def renderPiece (s : State) : Answer :=
  match s.inside with
  | .latched => andThen (renderMode s.mlat s) fun t => { t with ph := 6, inside := .boundary }
  | .boundary | .pressed | .advancing _ => .next { s with mlat := s.mode, inside := .latched }

/-- `PH.RENDER`: the mode is read once, latched, and its rule run (R120, R151), or one piece of that where
`PREEMPT = statement` (R154). -/
def execPhRender (s : State) : Answer :=
  match Config.preempt with
  | .phase => andThen (renderMode s.mode { s with mlat := s.mode }) fun t => { t with ph := 6 }
  | .statement => renderPiece s

/-- `PH.SNAPSHOT` (R152). -/
def execPhSnapshot (s : State) : Answer :=
  if s.mlat = 0 then .next { s with ph := 7 }
  else if s.mlat.toNat ≤ Config.lastMode then
    .next { s.crit (fun t => { t with rf := withLedBytes t.rf t.buf }) with ph := 7 }
  else .refused .reservedMode

/-- `PH.TRANSMIT` (R153). -/
def execPhTransmit (s : State) : Answer :=
  if s.mlat = 0 then .next { s.crit (fun t => t.sendFrame (ledBytes t.rf)) with ph := 0 }
  else if s.mlat.toNat ≤ Config.lastMode then
    .next { s.crit (fun t => t.sendFrame t.buf) with ph := 0 }
  else .refused .reservedMode

end Sys2Proof.Machine
end

