-- ==== Sys2Proof/Machine/Dispatch.lean ====
section
/-! DEFINITION. One arm per constructor of Instr, each a direct call of its meaning. -/

namespace Sys2Proof.Machine

open Sys2Proof

def exec (i : Instr) (s : State) : Host.Outcome State Fault Refusal :=
  match i with
  | .wrFwlo v => Sys2Proof.Machine.execWrFwlo v s
  | .wrFwhi v => Sys2Proof.Machine.execWrFwhi v s
  | .wrGpiomode v => Sys2Proof.Machine.execWrGpiomode v s
  | .wrGpioin v => Sys2Proof.Machine.execWrGpioin v s
  | .wrGpioout v => Sys2Proof.Machine.execWrGpioout v s
  | .wrMode v => Sys2Proof.Machine.execWrMode v s
  | .wrTdelta0L v => Sys2Proof.Machine.execWrTdelta0L v s
  | .wrTdelta0H v => Sys2Proof.Machine.execWrTdelta0H v s
  | .wrTdelta1L v => Sys2Proof.Machine.execWrTdelta1L v s
  | .wrTdelta1H v => Sys2Proof.Machine.execWrTdelta1H v s
  | .wrTdelta2L v => Sys2Proof.Machine.execWrTdelta2L v s
  | .wrTdelta2H v => Sys2Proof.Machine.execWrTdelta2H v s
  | .wrTdelta3L v => Sys2Proof.Machine.execWrTdelta3L v s
  | .wrTdelta3H v => Sys2Proof.Machine.execWrTdelta3H v s
  | .wrTdelta4L v => Sys2Proof.Machine.execWrTdelta4L v s
  | .wrTdelta4H v => Sys2Proof.Machine.execWrTdelta4H v s
  | .wrLevel v => Sys2Proof.Machine.execWrLevel v s
  | .wrRspeed v => Sys2Proof.Machine.execWrRspeed v s
  | .wrSspeed v => Sys2Proof.Machine.execWrSspeed v s
  | .wrBtnstate v => Sys2Proof.Machine.execWrBtnstate v s
  | .wrBtnen v => Sys2Proof.Machine.execWrBtnen v s
  | .wrLed0G v => Sys2Proof.Machine.execWrLed0G v s
  | .wrLed0R v => Sys2Proof.Machine.execWrLed0R v s
  | .wrLed0B v => Sys2Proof.Machine.execWrLed0B v s
  | .wrLed1G v => Sys2Proof.Machine.execWrLed1G v s
  | .wrLed1R v => Sys2Proof.Machine.execWrLed1R v s
  | .wrLed1B v => Sys2Proof.Machine.execWrLed1B v s
  | .wrLed2G v => Sys2Proof.Machine.execWrLed2G v s
  | .wrLed2R v => Sys2Proof.Machine.execWrLed2R v s
  | .wrLed2B v => Sys2Proof.Machine.execWrLed2B v s
  | .wrLed3G v => Sys2Proof.Machine.execWrLed3G v s
  | .wrLed3R v => Sys2Proof.Machine.execWrLed3R v s
  | .wrLed3B v => Sys2Proof.Machine.execWrLed3B v s
  | .wrLed4G v => Sys2Proof.Machine.execWrLed4G v s
  | .wrLed4R v => Sys2Proof.Machine.execWrLed4R v s
  | .wrLed4B v => Sys2Proof.Machine.execWrLed4B v s
  | .wrUnmapped36_39 idx v => Sys2Proof.Machine.execWrUnmapped36_39 idx v s
  | .wrUnmapped40_47 idx v => Sys2Proof.Machine.execWrUnmapped40_47 idx v s
  | .wrUnmapped48_63 idx v => Sys2Proof.Machine.execWrUnmapped48_63 idx v s
  | .wrUnmapped64_127 idx v => Sys2Proof.Machine.execWrUnmapped64_127 idx v s
  | .wrUnmapped128_255 idx v => Sys2Proof.Machine.execWrUnmapped128_255 idx v s
  | .rdFwlo => Sys2Proof.Machine.execRdFwlo s
  | .rdFwhi => Sys2Proof.Machine.execRdFwhi s
  | .rdGpiomode => Sys2Proof.Machine.execRdGpiomode s
  | .rdGpioin => Sys2Proof.Machine.execRdGpioin s
  | .rdGpioout => Sys2Proof.Machine.execRdGpioout s
  | .rdMode => Sys2Proof.Machine.execRdMode s
  | .rdTdelta0L => Sys2Proof.Machine.execRdTdelta0L s
  | .rdTdelta0H => Sys2Proof.Machine.execRdTdelta0H s
  | .rdTdelta1L => Sys2Proof.Machine.execRdTdelta1L s
  | .rdTdelta1H => Sys2Proof.Machine.execRdTdelta1H s
  | .rdTdelta2L => Sys2Proof.Machine.execRdTdelta2L s
  | .rdTdelta2H => Sys2Proof.Machine.execRdTdelta2H s
  | .rdTdelta3L => Sys2Proof.Machine.execRdTdelta3L s
  | .rdTdelta3H => Sys2Proof.Machine.execRdTdelta3H s
  | .rdTdelta4L => Sys2Proof.Machine.execRdTdelta4L s
  | .rdTdelta4H => Sys2Proof.Machine.execRdTdelta4H s
  | .rdLevel => Sys2Proof.Machine.execRdLevel s
  | .rdRspeed => Sys2Proof.Machine.execRdRspeed s
  | .rdSspeed => Sys2Proof.Machine.execRdSspeed s
  | .rdBtnstate => Sys2Proof.Machine.execRdBtnstate s
  | .rdBtnen => Sys2Proof.Machine.execRdBtnen s
  | .rdLed0G => Sys2Proof.Machine.execRdLed0G s
  | .rdLed0R => Sys2Proof.Machine.execRdLed0R s
  | .rdLed0B => Sys2Proof.Machine.execRdLed0B s
  | .rdLed1G => Sys2Proof.Machine.execRdLed1G s
  | .rdLed1R => Sys2Proof.Machine.execRdLed1R s
  | .rdLed1B => Sys2Proof.Machine.execRdLed1B s
  | .rdLed2G => Sys2Proof.Machine.execRdLed2G s
  | .rdLed2R => Sys2Proof.Machine.execRdLed2R s
  | .rdLed2B => Sys2Proof.Machine.execRdLed2B s
  | .rdLed3G => Sys2Proof.Machine.execRdLed3G s
  | .rdLed3R => Sys2Proof.Machine.execRdLed3R s
  | .rdLed3B => Sys2Proof.Machine.execRdLed3B s
  | .rdLed4G => Sys2Proof.Machine.execRdLed4G s
  | .rdLed4R => Sys2Proof.Machine.execRdLed4R s
  | .rdLed4B => Sys2Proof.Machine.execRdLed4B s
  | .rdUnmapped36_39 idx => Sys2Proof.Machine.execRdUnmapped36_39 idx s
  | .rdUnmapped40_47 idx => Sys2Proof.Machine.execRdUnmapped40_47 idx s
  | .rdUnmapped48_63 idx => Sys2Proof.Machine.execRdUnmapped48_63 idx s
  | .rdUnmapped64_127 idx => Sys2Proof.Machine.execRdUnmapped64_127 idx s
  | .rdUnmapped128_255 idx => Sys2Proof.Machine.execRdUnmapped128_255 idx s
  | .idRd off => Sys2Proof.Machine.execIdRd off s
  | .idWr off v => Sys2Proof.Machine.execIdWr off v s
  | .mPass => Sys2Proof.Machine.execMPass s
  | .mSocial => Sys2Proof.Machine.execMSocial s
  | .mRainbow => Sys2Proof.Machine.execMRainbow s
  | .mPalA => Sys2Proof.Machine.execMPalA s
  | .mPalB => Sys2Proof.Machine.execMPalB s
  | .mScanR => Sys2Proof.Machine.execMScanR s
  | .mScanG => Sys2Proof.Machine.execMScanG s
  | .mScanB => Sys2Proof.Machine.execMScanB s
  | .mReserved8_15 m => Sys2Proof.Machine.execMReserved8_15 m s
  | .mReserved16_31 m => Sys2Proof.Machine.execMReserved16_31 m s
  | .mReserved32_63 m => Sys2Proof.Machine.execMReserved32_63 m s
  | .mReserved64_127 m => Sys2Proof.Machine.execMReserved64_127 m s
  | .mReserved128_255 m => Sys2Proof.Machine.execMReserved128_255 m s
  | .phWait => Sys2Proof.Machine.execPhWait s
  | .phGpio => Sys2Proof.Machine.execPhGpio s
  | .phTouch => Sys2Proof.Machine.execPhTouch s
  | .phButton => Sys2Proof.Machine.execPhButton s
  | .phPublish => Sys2Proof.Machine.execPhPublish s
  | .phRender => Sys2Proof.Machine.execPhRender s
  | .phSnapshot => Sys2Proof.Machine.execPhSnapshot s
  | .phTransmit => Sys2Proof.Machine.execPhTransmit s
  | .symS0 => Sys2Proof.Machine.execSymS0 s
  | .symS1 => Sys2Proof.Machine.execSymS1 s
  | .bootInit => Sys2Proof.Machine.execBootInit s
  | .bootStrap => Sys2Proof.Machine.execBootStrap s
  | .bootCalibrate => Sys2Proof.Machine.execBootCalibrate s
  | .bootSelfcheck => Sys2Proof.Machine.execBootSelfcheck s
  | .bootFallback => Sys2Proof.Machine.execBootFallback s
  | .bootEnable => Sys2Proof.Machine.execBootEnable s

end Sys2Proof.Machine
end

