-- ==== Sys2Proof/Machine/Fetch.lean ====
section
/-! DEFINITION. What runs next (R22, R46, R80, R145, R190): the boot step, the phase `PH` names, or the host's
next bus operation; and how a word is placed so that it is what runs next. -/

namespace Sys2Proof.Machine

/-- A fetched operation: its format, its word, and the state it runs in. -/
structure Fetched where
  fmt : Format
  word : BusWord
  state : State
deriving DecidableEq, Repr

/-- The phase named by `PH` (R145). -/
def State.fetchPhase (s : State) : Fetched := ⟨.phase, s.ph.setWidth 18, s⟩

/-- The host's next bus operation (R80). -/
def State.fetchBusOp (s : State) : Fetched := ⟨.busop, s.deliverBusEvent.1, s.deliverBusEvent.2⟩

/-- The state after the environment has said which agent moves. -/
def State.turned (s : State) : State := { s with env := s.env.takeTurn.2 }

/-- What runs next. During boot it is the boot step (R190). Afterwards the environment says which agent
moves (R46, R174); agent BUS has a step only when `BUS_EN = 1` and `BUSMASK = 0` (R80), so that otherwise
agent TICK moves, which always has one (R145; log 8). -/
def fetch (s : State) : Fetched :=
  match s.boot with
  | some b => ⟨.boot, b.code.setWidth 18, s⟩
  | none =>
    match s.env.takeTurn.1 with
    | .tick => s.turned.fetchPhase
    | .bus => if s.busReady then s.turned.fetchBusOp else s.turned.fetchPhase

/-- The same state with `a` the next agent to move. -/
def State.giveTurn (a : Agent) (s : State) : State :=
  { s with env := { s.env with turns := a :: s.env.turns } }

/-- The state whose next step runs the word `w` of a format (log 23): a bus operation is the host's next with
the bus enabled and the turn given to agent BUS; a mode byte stands in `MODE` with `PH` at RENDER; a phase
number stands in `PH`; a data bit is the first bit of the frame TRANSMIT is about to send. -/
def placeWord (s : State) (nbits w : Nat) : State :=
  match formatOfBits nbits with
  | some .busop =>
    let t := { s with boot := none, busEn := true, busMask := false }
    { t with env := { t.env with hostOps := BitVec.ofNat 18 w :: t.env.hostOps } }.giveTurn .bus
  | some .mode => { s with boot := none, ph := 5, mode := BitVec.ofNat 8 w }.giveTurn .tick
  | some .phase => { s with boot := none, ph := BitVec.ofNat 3 w }.giveTurn .tick
  | some .sym =>
    { s with boot := none, ph := 7, mlat := 1, buf := s.buf.set 0 (BitVec.ofNat 8 (128 * w)) }.giveTurn .tick
  | some .boot => s
  | none => s

end Sys2Proof.Machine
end

