-- ==== Sys2Proof/Machine/Step.lean ====
section
/-! DEFINITION. One step of the block: fetch, decode, execute. -/

namespace Sys2Proof.Machine

/-- One step: the boot step, the phase or the bus operation that runs next (R46). -/
def step (s : State) : Host.Outcome State Fault Refusal :=
  match decode (fetch s).fmt (fetch s).word with
  | .ok i => exec i (fetch s).state
  | .error e => .refused (.undecodable e)

/-- The state whose next step runs the table's word `w` of `nbits` bits (`placeWord`). -/
def State.withFetchWord (s : State) (nbits w : Nat) : State := placeWord s nbits w

end Sys2Proof.Machine
end

