-- ==== Sys2Proof/Safety.lean ====
section
/-! DEFINITION. The terms the statements use: the rows of the register map beside their indices, sequences of
operations, the legal scanner head, and the invariant of the machine. -/

namespace Sys2Proof.Machine

/-! ### Rows of the opcode table beside their register index (register map, R25, R61) -/

/-- The reads of mapped indices. -/
def mappedReads : List (Instr × Fin 36) := [
    (.rdFwlo, 0), (.rdFwhi, 1), (.rdGpiomode, 2), (.rdGpioin, 3), (.rdGpioout, 4), (.rdMode, 5),
    (.rdTdelta0L, 6), (.rdTdelta0H, 7), (.rdTdelta1L, 8), (.rdTdelta1H, 9), (.rdTdelta2L, 10), (.rdTdelta2H, 11),
    (.rdTdelta3L, 12), (.rdTdelta3H, 13), (.rdTdelta4L, 14), (.rdTdelta4H, 15), (.rdLevel, 16), (.rdRspeed, 17),
    (.rdSspeed, 18), (.rdBtnstate, 19), (.rdBtnen, 20), (.rdLed0G, 21), (.rdLed0R, 22), (.rdLed0B, 23),
    (.rdLed1G, 24), (.rdLed1R, 25), (.rdLed1B, 26), (.rdLed2G, 27), (.rdLed2R, 28), (.rdLed2B, 29),
    (.rdLed3G, 30), (.rdLed3R, 31), (.rdLed3B, 32), (.rdLed4G, 33), (.rdLed4R, 34), (.rdLed4B, 35)]

/-- The writes of the indices the register map marks RW. -/
def storingWrites : List ((Byte → Instr) × Fin 36) := [
    (.wrGpiomode, 2), (.wrGpioout, 4), (.wrMode, 5), (.wrLevel, 16), (.wrRspeed, 17), (.wrSspeed, 18),
    (.wrBtnen, 20)]

/-- The writes of the indices the register map marks RO. -/
def readOnlyWrites : List ((Byte → Instr) × Fin 36) := [
    (.wrFwlo, 0), (.wrFwhi, 1), (.wrGpioin, 3), (.wrTdelta0L, 6), (.wrTdelta0H, 7), (.wrTdelta1L, 8),
    (.wrTdelta1H, 9), (.wrTdelta2L, 10), (.wrTdelta2H, 11), (.wrTdelta3L, 12), (.wrTdelta3H, 13), (.wrTdelta4L, 14),
    (.wrTdelta4H, 15), (.wrBtnstate, 19)]

/-- The writes of the colour bytes, "RW when mode==0; RO snapshot otherwise". -/
def ledWrites : List ((Byte → Instr) × Fin 36) := [
    (.wrLed0G, 21), (.wrLed0R, 22), (.wrLed0B, 23), (.wrLed1G, 24), (.wrLed1R, 25), (.wrLed1B, 26),
    (.wrLed2G, 27), (.wrLed2R, 28), (.wrLed2B, 29), (.wrLed3G, 30), (.wrLed3R, 31), (.wrLed3B, 32),
    (.wrLed4G, 33), (.wrLed4R, 34), (.wrLed4B, 35)]

/-- The writes of unmapped indices. -/
def unmappedWrites : List (Byte → Byte → Instr) :=
  [.wrUnmapped36_39, .wrUnmapped40_47, .wrUnmapped48_63, .wrUnmapped64_127, .wrUnmapped128_255]

/-- The reads of unmapped indices. -/
def unmappedReads : List (Byte → Instr) :=
  [.rdUnmapped36_39, .rdUnmapped40_47, .rdUnmapped48_63, .rdUnmapped64_127, .rdUnmapped128_255]

/-- The reserved modes. -/
def reservedModes : List (Byte → Instr) :=
  [.mReserved8_15, .mReserved16_31, .mReserved32_63, .mReserved64_127, .mReserved128_255]

/-- The scanner modes, each beside the channel offset its ramp goes to (R129). -/
def scanModes : List (Instr × Nat) := [(.mScanR, 1), (.mScanG, 0), (.mScanB, 2)]

/-- The fifteen host writes that put the frame `f` into the colour bytes, one step each (R75). -/
def frameWrites (f : Frame) : List Instr :=
  [.wrLed0G f[0], .wrLed0R f[1], .wrLed0B f[2], .wrLed1G f[3], .wrLed1R f[4], .wrLed1B f[5],
    .wrLed2G f[6], .wrLed2R f[7], .wrLed2B f[8], .wrLed3G f[9], .wrLed3R f[10], .wrLed3B f[11],
    .wrLed4G f[12], .wrLed4R f[13], .wrLed4B f[14]]

/-- The bits of a word that select a row and its operands: a read ignores its data byte (R67). -/
def significantBits (f : Format) (w : BusWord) : BusWord :=
  if f = .busop ∧ BusWord.isWrite w = false then (w >>> 8) <<< 8 else w

/-! ### Sequences of operations -/

/-- Operations one after another, stopping at the first fault or refusal. -/
def execAll : List Instr → State → Answer
  | [], s => .next s
  | i :: is, s =>
    match exec i s with
    | .next t => execAll is t
    | .fault f => .fault f
    | .refused r => .refused r

/-- One operation `n` times. -/
def execTimes (n : Nat) (i : Instr) (s : State) : Answer := execAll (List.replicate n i) s

/-- A run of `n` steps, stopping at the first fault or refusal. -/
def stepTimes : Nat → State → Answer
  | 0, s => .next s
  | n + 1, s =>
    match step s with
    | .next t => stepTimes n t
    | .fault f => .fault f
    | .refused r => .refused r

/-! ### The invariant -/

/-- The scanner head is in 0 to 4, and at an end its direction points back (R135). -/
def State.HeadLegal (s : State) : Prop :=
  s.pos.toNat ≤ 4 ∧ (s.pos = 4 → s.dir = .backward) ∧ (s.pos = 0 → s.dir = .forward)

/-- What holds at power-on and at every step boundary after it. -/
structure State.Inv (s : State) : Prop where
  /-- the scanner head is legal (R135) -/
  head : s.HeadLegal
  /-- the host-owned pairs never differ (R10) -/
  rspeed : s.rf[17] = s.rspeed
  sspeed : s.rf[18] = s.sspeed
  gpioMode : s.rf[2].setWidth 4 = s.gpioMode
  gpioOut : s.rf[4].setWidth 4 = s.gpioOut
  btnEn : s.btnEn = decide (s.rf[20] ≠ 0)
  /-- the firmware version is "Constant after boot" (R96) -/
  versionLow : s.rf[0] = Config.fwVersion.extractLsb' 0 8
  versionHigh : s.rf[1] = Config.fwVersion.extractLsb' 8 8
  /-- the reserved bits the block always writes 0 (R73) -/
  gpioInputsHigh : s.rf[3].extractLsb' 4 4 = 0
  buttonStateHigh : s.rf[19].extractLsb' 2 6 = 0
  /-- `BUSMASK` is 0 at every step boundary (R23, R47) -/
  mask : s.busMask = false
  /-- `BUS_EN` is 0 throughout boot (R190), and 1 only after a passed self-check (R194, R196) -/
  busOffInBoot : s.boot ≠ none → s.busEn = false
  busOnChecked : s.busEn = true → s.ok = true
  /-- between RENDER and the end of the tick the latched mode is one RENDER dispatched on (R120, R133) -/
  latched : s.ph = 6 ∨ s.ph = 7 → s.mlat.toNat ≤ 7

end Sys2Proof.Machine
end

