-- ==== Sys2Proof/Certificates/Slice0/Obligations.lean ====
section
/-! DEFINITION. The statements for the provers. Each docstring names what of the spec the statement says, and
the spec's own decisions (92_eei_decisions.md) or log entries it rests on. -/

open Sys2Proof Sys2Proof.Machine

/-! ### Encoding and decoding -/

/-- Decoding the encoding of a well-formed instruction gives it back (R64, R66, R67, R68; the layouts are the
spec's own, decisions D3, D17, D27). -/
def Obligations.DecodeEncodeRoundTrip : Prop :=
  ∀ i : Instr, i.wf = true → decode i.format (encode i) = .ok i

/-- Every bus word, mode byte, phase number and data bit is exactly one instruction; the data byte of a read is
ignored (R67, R76). -/
def Obligations.EveryWordIsExactlyOneInstruction : Prop :=
  ∀ (f : Format) (w : BusWord), f ≠ .boot → w.toNat < 2 ^ f.width →
    ∃ i : Instr, decode f w = .ok i ∧ i.wf = true ∧ i.format = f ∧ encode i = significantBits f w ∧
      ∀ j : Instr, j.wf = true → j.format = f → encode j = significantBits f w → j = i

/-- A few words written out from the layouts of R67, R64, R68 and R66 (vectors V20) decode to the instructions they
stand for. The last clause, that boot step 6 is rejected by name, is the model's choice (log 26): R68 and R73 only call
6 and 7 unused. -/
def Obligations.WordsOfTheSpecDecode : Prop :=
  decode .busop 0x10501 = .ok (.wrMode 1) ∧ decode .busop 0x112FF = .ok (.wrSspeed 255) ∧
  decode .busop 0x11511 = .ok (.wrLed0G 0x11) ∧ decode .busop 0x123FF = .ok (.wrLed4B 255) ∧
  decode .busop 0x12801 = .ok (.wrUnmapped40_47 40 1) ∧ decode .busop 0x00A00 = .ok .rdTdelta2L ∧
  decode .busop 0x01300 = .ok .rdBtnstate ∧ decode .busop 0x02800 = .ok (.rdUnmapped40_47 40) ∧
  decode .busop 0x20300 = .ok (.idRd 3) ∧ decode .mode 0b00000110 = .ok .mScanG ∧
  decode .phase 0b100 = .ok .phPublish ∧ decode .sym 1 = .ok .symS1 ∧
  decode .boot 0b010 = .ok .bootCalibrate ∧ decode .boot 6 = .error .unusedBootStep

/-- The words of the control surface are `WR idx, val = 0x10000 + 256×idx + val` and `RD idx = 256×idx`, the index
being the register map's (R61, R67; the word is the spec's own, decision D27). -/
def Obligations.ControlSurfaceWords : Prop :=
  (∀ p ∈ mappedReads, encode p.1 = BitVec.ofNat 18 (256 * p.2.val)) ∧
  (∀ p ∈ storingWrites ++ readOnlyWrites ++ ledWrites, ∀ v : Byte,
    encode (p.1 v) = BitVec.ofNat 18 (0x10000 + 256 * p.2.val + v.toNat))

/-! ### One step -/

/-- A step runs the decoded boot step, phase or bus operation, in the state from which the environment's choice
of agent, and for a bus operation the pending operation, has been taken (R46, R80, R145, R190; the choice of
agent is the model's form of the spec's free interleaving, log 8). -/
def Obligations.StepRunsTheDecodedOperation : Prop :=
  (∀ (s : State) (b : BootStep) (i : Instr), s.boot = some b →
    decode .boot (b.code.setWidth 18) = .ok i → step s = exec i s) ∧
  (∀ (s : State) (i : Instr), s.boot = none →
    (s.env.takeTurn.1 = .tick ∨ s.busEn = false ∨ s.busMask = true) →
    decode .phase (s.ph.setWidth 18) = .ok i → step s = exec i { s with env := s.env.takeTurn.2 }) ∧
  (∀ (s : State) (i : Instr), s.boot = none → s.env.takeTurn.1 = .bus → s.busEn = true → s.busMask = false →
    decode .busop s.env.takeTurn.2.takeHostOp.1 = .ok i →
    step s = exec i { s with env := s.env.takeTurn.2.takeHostOp.2 })

/-! ### The host's reads -/

/-- `RD idx` "returns `RF[idx]` as it is at that step and changes no state", with encoding `256 × idx` (R95). The byte
is returned in `replies`, the model's own field (log 9). -/
def Obligations.MappedReadsReturnTheRegister : Prop :=
  ∀ p ∈ mappedReads, encode p.1 = BitVec.ofNat 18 (256 * p.2.val) ∧
    ∀ s : State, exec p.1 s = .next { s with replies := s.replies ++ [s.rf[p.2]] }

/-- A read of an unmapped index returns `draw(u8)`, any byte, and changes no state (R108; decision D6). -/
def Obligations.UnmappedReadsDraw : Prop :=
  ∀ c ∈ unmappedReads, ∀ (idx : Byte) (s : State),
    exec (c idx) s = .next { s with replies := s.replies ++ [s.env.takeByte.1], env := s.env.takeByte.2 }

/-- `IDRD off` returns `ID[off]` for `off < ID_LEN` and `draw(u8)` otherwise, `IDWR` changes no state, and their words
are as R109 gives them (R109; decisions D27, D32). -/
def Obligations.IdentityReadAndWrite : Prop :=
  (∀ (off : Byte) (s : State),
    exec (.idRd off) s = .next (if h : off.toNat < Config.idLen
      then { s with replies := s.replies ++ [Config.identity[off.toNat]'h] }
      else { s with replies := s.replies ++ [s.env.takeByte.1], env := s.env.takeByte.2 })) ∧
  (∀ (off v : Byte) (s : State), exec (.idWr off v) s = .next s) ∧
  (∀ off v : Byte, encode (.idRd off) = BitVec.ofNat 18 (0x20000 + 256 * off.toNat) ∧
    encode (.idWr off v) = BitVec.ofNat 18 (0x30000 + 256 * off.toNat + v.toNat))

/-- Two states with the same register file answer every mapped read with the same byte: the runtime registers
are "invisible to the host except through what is published" (R177). -/
def Obligations.ReadsSeeOnlyTheRegisterFile : Prop :=
  ∀ p ∈ mappedReads, ∀ s t : State, s.rf = t.rf →
    ∃ (b : Byte) (s' t' : State), exec p.1 s = .next s' ∧ exec p.1 t = .next t' ∧
      s'.replies = s.replies ++ [b] ∧ t'.replies = t.replies ++ [b]

/-! ### The host's writes -/

/-- The writes of indices 2, 4, 5, 16, 18 and 20 store the byte, re-derive the one register that depends on it,
and change nothing else (R81, R83, R85, R86, R88, R90, R92; decisions D1, log 11, and D7). -/
def Obligations.WritesStoreAndRederive : Prop :=
  ∀ (v : Byte) (s : State),
    exec (.wrGpiomode v) s = .next { s with rf := s.rf.set 2 v, gpioMode := v.extractLsb' 0 4 } ∧
    exec (.wrGpioout v) s = .next { s with rf := s.rf.set 4 v, gpioOut := v.extractLsb' 0 4 } ∧
    exec (.wrMode v) s = .next { s with rf := s.rf.set 5 v, mode := v } ∧
    exec (.wrLevel v) s = .next { s with rf := s.rf.set 16 v, level := v } ∧
    exec (.wrSspeed v) s = .next { s with rf := s.rf.set 18 v, sspeed := v } ∧
    exec (.wrBtnen v) s = .next { s with rf := s.rf.set 20 v, btnEn := decide (v ≠ 0) }

/-- `WR 17, val`: "`RF[17] <- val; RSPEED <- val`. All values legal", with encoding `0x11100 + val`, and `RD 17` then
returns `val` (R89, R95). That nothing else changes is the spec's choice `REDERIVE_SCOPE = written_only` (R81, decision
D1, log 11), the word is decision D27, and the byte returned stands in `replies`, the model's own field (log 9). -/
def Obligations.RainbowSpeedWrite : Prop :=
  ∀ (v : Byte) (s : State),
    exec (.wrRspeed v) s = .next { s with rf := s.rf.set 17 v, rspeed := v } ∧
    encode (.wrRspeed v) = BitVec.ofNat 18 (0x11100 + v.toNat) ∧
    ∀ t, exec (.wrRspeed v) s = .next t → exec .rdRspeed t = .next { t with replies := t.replies ++ [v] }

/-- A pin turned to output drives `GPIO_OUT`'s bit at once, every pin configured as output takes its bit's level
at once, and other pins are pulled inputs (R83, R85; polarity and pull are OPEN, decision D25; the pin function
is the model's output, log 18). -/
def Obligations.GpioWritesReachThePins : Prop :=
  ∀ (v : Byte) (s : State) (i : Fin 4),
    (∃ t, exec (.wrGpiomode v) s = .next t ∧
      t.pin i = if v.getLsbD i.val = Config.gpioDirOneIsOutput then .driven (s.gpioOut.getLsbD i.val)
        else .pulled Config.gpioPull) ∧
    (∃ t, exec (.wrGpioout v) s = .next t ∧
      t.pin i = if s.gpioMode.getLsbD i.val = Config.gpioDirOneIsOutput then .driven (v.getLsbD i.val)
        else s.pin i)

/-- A host write to a read-only index changes nothing (R82, R84, R87, R91; decision D5, log 12). -/
def Obligations.ReadOnlyWritesAreIgnored : Prop :=
  ∀ p ∈ readOnlyWrites, ∀ (v : Byte) (s : State), exec (p.1 v) s = .next s

/-- A host write to an unmapped index changes nothing (R94; decision D6). -/
def Obligations.UnmappedWritesAreIgnored : Prop :=
  ∀ c ∈ unmappedWrites, ∀ (idx v : Byte) (s : State), exec (c idx v) s = .next s

/-- A colour byte: "if MODE = 0 then RF[idx] <- val else (no state change)" (R93; the second branch is decision
D5). -/
def Obligations.LedWritesOnlyInModeZero : Prop :=
  ∀ p ∈ ledWrites, ∀ (v : Byte) (s : State),
    exec (p.1 v) s = .next (if s.mode = 0 then { s with rf := s.rf.set p.2 v } else s)

/-- A read right after a write of a host-writable index returns the byte written, whatever the byte: the write
completes before the handler returns, "since the host may immediately re-read" (R81, R95). -/
def Obligations.WriteThenReadReturnsTheByte : Prop :=
  ∀ p ∈ storingWrites ++ ledWrites, ∀ q ∈ mappedReads, q.2 = p.2 → ∀ (v : Byte) (s : State),
    (21 ≤ p.2.val → s.mode = 0) →
    ∃ t, execAll [p.1 v, q.1] s = .next t ∧ t.replies = s.replies ++ [v]

/-- The host's access rights: every bus operation completes, changes `RF` only at indices 2, 4, 5, 16, 17, 18,
20, and at 21 to 35 while `MODE = 0`, and reaches no register beside the seven a write re-derives (R177; the
writes ignored elsewhere are decisions D5, D6). -/
def Obligations.HostAccessRights : Prop :=
  ∀ i : Instr, i.format = .busop → ∀ s : State, ∃ t, exec i s = .next t ∧
    (∀ k : Fin 36, t.rf[k] ≠ s.rf[k] → k.val ∈ [2, 4, 5, 16, 17, 18, 20] ∨ 21 ≤ k.val ∧ s.mode = 0) ∧
    t = { s with
      rf := t.rf, mode := t.mode, level := t.level, rspeed := t.rspeed, sspeed := t.sspeed, btnEn := t.btnEn,
      gpioMode := t.gpioMode, gpioOut := t.gpioOut, replies := t.replies, env := t.env }

/-! ### The phases -/

/-- Phase WAIT: time passes and the counter is read; the period has elapsed when the wrapped difference reaches 20
ms, and then only `LAST_TICK` and `PH` change (R70, R146; decision D18; the counter's advance is log 5). -/
def Obligations.WaitPhase : Prop :=
  ∀ (s : State) (n : Ticks), n = s.now + s.env.takeElapsed.1 →
    exec .phWait s = .next (if 20 * Config.tickUnit ≤ (n - s.lastTick).toNat
      then { s with now := n, lastTick := n, ph := 1, env := s.env.takeElapsed.2 }
      else { s with now := n, env := s.env.takeElapsed.2 })

/-- Phase GPIO: `GPIO_IN <- GpioSample() ; PH <- 2`, nothing else (R147; numbering is decision D3). -/
def Obligations.GpioPhase : Prop :=
  ∀ s : State, exec .phGpio s = .next { s with gpioIn := s.env.takeGpio.1, env := s.env.takeGpio.2, ph := 2 }

/-- Phase TOUCH: the deltas are the wrapped differences of the samples and the baseline; with no delta above the
threshold the level stays, otherwise it is the highest channel whose delta exceeds it; `DELTA`, `LEVEL` and
`PH` are all that changes (R112; the threshold is R7's `TH_LEVEL`). -/
def Obligations.TouchPhase : Prop :=
  ∀ s : State, ∃ t, exec .phTouch s = .next t ∧
    (∀ i : Fin 5, t.delta[i] = (s.env.takeFive Config.iterTick).1[i] - s.base[i]) ∧
    ((∀ i : Fin 5, t.delta[i].toInt ≤ 1900) → t.level = s.level) ∧
    (∀ i : Fin 5, 1900 < t.delta[i].toInt → (∀ j : Fin 5, i < j → t.delta[j].toInt ≤ 1900) →
      t.level.toNat = i.val) ∧
    t = { s with delta := t.delta, level := t.level, ph := 3, env := (s.env.takeFive Config.iterTick).2 }

/-- Phase BUTTON, part 1: `BTN_PREV <- BTN_CUR ; BTN_CUR <- ButtonSample()` (R141); `MODE` and `PH`, which part 2 may
write (R142), are all that may change beside. That the phase is one step is the spec's choice `PREEMPT = phase`
(R154, decision D2, log 13). -/
def Obligations.ButtonPhaseShiftsTheSample : Prop :=
  ∀ s : State, ∃ t, exec .phButton s = .next t ∧ t.btnPrev = s.btnCur ∧ t.btnCur = s.env.takeButton.1 ∧
    t = { s with btnPrev := t.btnPrev, btnCur := t.btnCur, mode := t.mode, ph := t.ph, env := s.env.takeButton.2 }

/-- Phase BUTTON, part 2: on an enabled press edge the mode advances 0 → 1 → … → 7 → 1 and a reserved mode goes to
1, otherwise it stays; `PH <- 4` (R142; 0 → 1 is decision D9, reserved → 1 is D8, the numbering D3, that the phase is
one step D2, log 13). -/
def Obligations.ButtonPhaseAdvancesTheMode : Prop :=
  ∀ s t : State, exec .phButton s = .next t → t.ph = 4 ∧
    (t.btnCur = true ∧ t.btnPrev = false ∧ s.btnEn = true →
      t.mode.toNat = if 7 ≤ s.mode.toNat then 1 else s.mode.toNat + 1) ∧
    (¬(t.btnCur = true ∧ t.btnPrev = false ∧ s.btnEn = true) → t.mode = s.mode)

/-- "Phase BUTTON changes `MODE` iff `BTN_CUR ∧ ¬BTN_PREV ∧ BTNEN` holds after the shift, and the new value is in 1..7
for every old value in 0..255" (R144, which the spec derives from R142; decisions D8, D9; that the phase is one step is
decision D2, log 13). -/
def Obligations.ButtonNeverLandsOnZero : Prop :=
  ∀ s : State, ∃ t, exec .phButton s = .next t ∧
    (t.mode ≠ s.mode ↔ t.btnCur = true ∧ t.btnPrev = false ∧ t.btnEn = true) ∧
    (t.mode ≠ s.mode → 1 ≤ t.mode.toNat ∧ t.mode.toNat ≤ 7)

/-- Phase PUBLISH, register by register: what it writes, that every other register byte stays, and that beside `RF`
only `PH` changes (R150; what it writes is decision D3). -/
def Obligations.PublishPhase : Prop :=
  ∀ s : State, ∃ t, exec .phPublish s = .next t ∧
    t.rf[3] = s.gpioIn.setWidth 8 ∧ t.rf[5] = s.mode ∧ t.rf[16] = s.level ∧
    (∀ b : Nat, t.rf[19].getLsbD b = (decide (b = 0) && s.btnCur || decide (b = 1) && s.btnPrev)) ∧
    (∀ i : Fin 5, t.rf[6 + 2 * i.val]'(by show _ < 36; omega) = s.delta[i].extractLsb' 0 8 ∧
      t.rf[7 + 2 * i.val]'(by show _ < 36; omega) = s.delta[i].extractLsb' 8 8) ∧
    (∀ k : Fin 36, k.val ≠ 3 → k.val ≠ 5 → ¬(6 ≤ k.val ∧ k.val ≤ 16) → k.val ≠ 19 → t.rf[k] = s.rf[k]) ∧
    t = { s with rf := t.rf, busMask := false, ph := 5 }

/-- Phase RENDER runs the rule of the mode the byte decodes to, in the state with that byte latched in `MLAT`, and
then sets `PH <- 6`; it completes in modes 0 to 7 and is refused in the others (R120; the latch is decision D33,
the refusal of reserved modes D8, that the phase is one step D2, log 13; from a legal head, R135). -/
def Obligations.RenderRunsTheModeRule : Prop :=
  ∀ (s : State) (i : Instr), decode .mode (s.mode.setWidth 18) = .ok i →
    exec .phRender s = andThen (exec i { s with mlat := s.mode }) (fun t => { t with ph := 6 }) ∧
    (s.mode.toNat ≤ 7 → s.HeadLegal → ∃ t, exec .phRender s = .next t ∧ t.mlat = s.mode ∧ t.ph = 6) ∧
    (8 ≤ s.mode.toNat → exec .phRender s = .refused .reservedMode)

/-- A reserved mode has no rendering: the `M.RESERVED` rows, and SNAPSHOT and TRANSMIT of a tick that dispatched on
one, are refused (R133, R72; decision D8). -/
def Obligations.ReservedModesAreRefused : Prop :=
  (∀ c ∈ reservedModes, ∀ (m : Byte) (s : State), exec (c m) s = .refused .reservedMode) ∧
  (∀ s : State, 8 ≤ s.mlat.toNat → exec .phSnapshot s = .refused .reservedMode ∧
    exec .phTransmit s = .refused .reservedMode)

/-- Phase SNAPSHOT: in modes 1 to 7 `RF[21+k] <- BUF[k]` for k in 0..14 and no other register byte; in mode 0
nothing; `PH <- 7` (R152; decisions D3, D29). -/
def Obligations.SnapshotPhase : Prop :=
  ∀ s : State, s.mlat.toNat ≤ 7 → ∃ t, exec .phSnapshot s = .next t ∧
    (s.mlat = 0 → t.rf = s.rf) ∧
    (s.mlat ≠ 0 → (∀ k : Fin 15, t.rf[21 + k.val]'(by show _ < 36; omega) = s.buf[k]) ∧
      ∀ k : Fin 36, k.val < 21 → t.rf[k] = s.rf[k]) ∧
    (s.busMask = false → t = { s with rf := t.rf, ph := 7 })

/-- Phase TRANSMIT: in mode 0 the frame sent is `RF[21..35]`, in modes 1 to 7 it is `BUF`; `WIRE` grows by that
frame, `PH <- 0`, and nothing else changes (R153). -/
def Obligations.TransmitPhase : Prop :=
  ∀ s : State, s.busMask = false →
    (s.mlat = 0 → ∃ f : Frame, (∀ k : Fin 15, f[k] = s.rf[21 + k.val]'(by show _ < 36; omega)) ∧
      exec .phTransmit s = .next { s with wire := s.wire ++ frameSymbols f, ph := 0 }) ∧
    (1 ≤ s.mlat.toNat → s.mlat.toNat ≤ 7 →
      exec .phTransmit s = .next { s with wire := s.wire ++ frameSymbols s.buf, ph := 0 })

/-! ### The line -/

/-- Frame bit number `n`, in line order, is bit `7 - (n mod 8)` of frame byte `n div 8`; the 120 symbols are followed
by one `GAP` (R65, R161, R162; the ascending byte order and the gap are decision D19). -/
def Obligations.FrameBitOrder : Prop :=
  ∀ f : Frame, (frameSymbols f).length = 121 ∧ (frameSymbols f)[120]? = some .gap ∧
    ∀ n : Fin 120, (frameSymbols f)[n.val]? =
      some (if (f[n.val / 8]'(by show _ < 15; omega)).getLsbD (7 - n.val % 8) = true then .s1 else .s0)

/-- A data bit 1 puts one `S1` on the line and a 0 one `S0`, and `S1` is high for longer, `T1H > T0H`; a gap is low for
at least `T_RESET`, and nothing more is known of its length (R163, R164, R168, R169; the durations are OPEN, the line
function is log 16). -/
def Obligations.SymbolsAndTheirPulses : Prop :=
  (∀ s : State, exec .symS0 s = .next { s with wire := s.wire ++ [.s0] } ∧
    exec .symS1 s = .next { s with wire := s.wire ++ [.s1] } ∧
    ∀ t, exec .symS1 s = .next t → t.line = s.line ++ [(true, Config.t1h), (false, Config.t1l)]) ∧
  (∀ s t : State, exec .symS0 s = .next t → t.line = s.line ++ [(true, Config.t0h), (false, Config.t0l)]) ∧
  (∀ s t : State, t.wire = s.wire ++ [.gap] → ∃ d : Nat, Config.tReset ≤ d ∧ t.line = s.line ++ [(false, d)]) ∧
  Config.t0h < Config.t1h

/-- What SEND puts on the line is what the symbol operations of its 120 data bits put there, one after another in
line order, and the `GAP` (R60, R161, R162; decision D19). -/
def Obligations.FrameIsItsSymbolOperations : Prop :=
  ∀ (f : Frame) (is : List Instr) (s : State),
    (frameBits f).map (fun b => decode .sym (if b then 1 else 0)) = is.map Except.ok →
    is.length = 120 ∧ ∃ t, execAll is s = .next t ∧ t.wire ++ [.gap] = s.wire ++ frameSymbols f ∧
      t = { s with wire := t.wire }

/-! ### The render modes -/

/-- Mode 0 computes no frame and writes nothing (R121; decision D29). -/
def Obligations.PassthroughWritesNothing : Prop :=
  ∀ s : State, exec .mPass s = .next s

/-- Mode 1: LEDs above the level are dark in green and red, the others show `min(50 × L, 255)` and
`max(255 - 50 × L, 0)`, and every LED's blue is 255 exactly when its own delta exceeds 2000; only `BUF` changes
(R122; saturation above level 4 is decision D10, blue on a dark LED D11). -/
def Obligations.SocialLevelColours : Prop :=
  ∀ s : State, ∃ t, exec .mSocial s = .next t ∧
    (∀ i : Fin 5,
      (t.buf[3 * i.val]'(by show _ < 15; omega)).toNat =
        (if s.level.toNat < i.val then 0 else min (50 * s.level.toNat) 255) ∧
      (t.buf[3 * i.val + 1]'(by show _ < 15; omega)).toNat =
        (if s.level.toNat < i.val then 0 else 255 - 50 * s.level.toNat) ∧
      t.buf[3 * i.val + 2]'(by show _ < 15; omega) = if 2000 < s.delta[i].toInt then 255 else 0) ∧
    t = { s with buf := t.buf }

/-- Mode 2: LED `i` shows `HSV2RGB(wrap_8(HUE + i × RSPEED), 240, 128)` in the order green, red, blue, then the hue
counter goes up by 1 and wraps; only `BUF` and `HUE` change (R123; decision D12, `HSV2RGB` is OPEN). -/
def Obligations.RainbowColours : Prop :=
  ∀ s : State, ∃ t, exec .mRainbow s = .next t ∧
    (∀ i : Fin 5, ∃ c : Rgb,
      c = Config.hsv2rgb (BitVec.ofNat 8 ((s.hue.toNat + i.val * s.rspeed.toNat) % 256)) 240 128 ∧
      t.buf[3 * i.val]'(by show _ < 15; omega) = c.g ∧ t.buf[3 * i.val + 1]'(by show _ < 15; omega) = c.r ∧
      t.buf[3 * i.val + 2]'(by show _ < 15; omega) = c.b) ∧
    t.hue.toNat = (s.hue.toNat + 1) % 256 ∧ t = { s with buf := t.buf, hue := t.hue }

/-- The hue counter turns once in 256 renderings of mode 2: after `n` of them it is `HUE + n`, mod 256 (R123, R178;
decision D12). -/
def Obligations.HueTurnsIn256 : Prop :=
  ∀ (n : Nat) (s : State), ∃ t, execTimes n .mRainbow s = .next t ∧ t.hue.toNat = (s.hue.toNat + n) % 256 ∧
    (n = 256 → t.hue = s.hue)

/-- Modes 3 and 4, mode bytes 3 and 4: each LED shows its triple of the palette in the order green, red, blue; only
`BUF` changes; the palettes differ (R124, R125; the colours are OPEN). -/
def Obligations.PaletteFrames : Prop :=
  (∀ p ∈ [(Instr.mPalA, Config.paletteA), (.mPalB, Config.paletteB)], ∀ s : State,
    ∃ t, exec p.1 s = .next t ∧
      (∀ i : Fin 5, t.buf[3 * i.val]'(by show _ < 15; omega) = p.2[i].g ∧
        t.buf[3 * i.val + 1]'(by show _ < 15; omega) = p.2[i].r ∧
        t.buf[3 * i.val + 2]'(by show _ < 15; omega) = p.2[i].b) ∧
      t = { s with buf := t.buf }) ∧
  Config.paletteB ≠ Config.paletteA ∧ encode .mPalA = 0x03 ∧ encode .mPalB = 0x04

/-- Scanner steps 1 and 3: every byte of the buffer decays by 10 and stops at 0, then the byte of the head's
channel, at the position the step leaves, goes up by 50 and stops at 255 (R128, R129; from a legal head, R135). -/
def Obligations.ScannerDecaysAndRamps : Prop :=
  ∀ p ∈ scanModes, ∀ s : State, s.HeadLegal → ∃ t, exec p.1 s = .next t ∧
    ∀ k : Fin 15, (t.buf[k]).toNat =
      if k.val = 3 * t.pos.toNat + p.2 then min (((s.buf[k]).toNat - 10) + 50) 255 else (s.buf[k]).toNat - 10

/-- Scanner step 2: the accumulator goes up by 1, mod 256; above `255 - SSPEED` it is cleared and the head moves one
place in its direction, turning back exactly at 4 and at 0; beside `BUF`, `POS`, `DIR` and `ACC` nothing changes
(R126, R127; decisions D14 and D37, log 14; from a legal head, R135). -/
def Obligations.ScannerAdvancesAndMoves : Prop :=
  ∀ p ∈ scanModes, ∀ s : State, s.HeadLegal → ∃ t, exec p.1 s = .next t ∧
    ((s.acc.toNat + 1) % 256 ≤ 255 - s.sspeed.toNat →
      t.acc.toNat = (s.acc.toNat + 1) % 256 ∧ t.pos = s.pos ∧ t.dir = s.dir) ∧
    (255 - s.sspeed.toNat < (s.acc.toNat + 1) % 256 → t.acc = 0 ∧
      (s.dir = .forward → t.pos.toNat = s.pos.toNat + 1 ∧ (t.dir = .backward ↔ t.pos = 4)) ∧
      (s.dir = .backward → t.pos.toNat + 1 = s.pos.toNat ∧ (t.dir = .forward ↔ t.pos = 0))) ∧
    t.HeadLegal ∧ t = { s with buf := t.buf, pos := t.pos, dir := t.dir, acc := t.acc }

/-- The scanner never clamps: where the head would leave 0 to 4, or stands above 4, the step stops, in the states no
run from reset reaches (R135; that it is a fault is the model's choice, log 19). -/
def Obligations.ScannerStopsRatherThanClamp : Prop :=
  ∀ p ∈ scanModes, ∀ s : State,
    (4 < s.pos.toNat → exec p.1 s = .fault .scannerHeadLeft) ∧
    (255 - s.sspeed.toNat < (s.acc.toNat + 1) % 256 →
      (s.pos = 4 ∧ s.dir = .forward ∨ s.pos = 0 ∧ s.dir = .backward) → exec p.1 s = .fault .scannerHeadLeft)

/-- The head moves once every `256 - SSPEED` scanner steps when `SSPEED ≥ 1`, and never when `SSPEED = 0` (R127;
decisions D14 and D37, log 14; from a legal head, R135). -/
def Obligations.ScannerDwell : Prop :=
  ∀ p ∈ scanModes, ∀ s : State, s.HeadLegal →
    (s.acc = 0 → ∀ n : Nat, n < 256 - s.sspeed.toNat →
      ∃ t, execTimes n p.1 s = .next t ∧ t.pos = s.pos ∧ t.dir = s.dir ∧ t.acc.toNat = n) ∧
    (s.acc = 0 → 1 ≤ s.sspeed.toNat →
      ∃ t, execTimes (256 - s.sspeed.toNat) p.1 s = .next t ∧ t.acc = 0 ∧ t.HeadLegal ∧
        (t.pos.toNat = s.pos.toNat + 1 ∨ t.pos.toNat + 1 = s.pos.toNat)) ∧
    (s.sspeed = 0 → ∀ n : Nat, ∃ t, execTimes n p.1 s = .next t ∧ t.pos = s.pos ∧ t.dir = s.dir)

/-- A full bounce is 8 moves: with `SSPEED = 255` the head is back where it started, in the same direction, after
8 steps and after no fewer, and on the way it stands at LED 0 and at LED 4 (R127, R178; decisions D14 and D37; from a
legal head and `ACC = 0`). -/
def Obligations.ScannerBounceIsEightMoves : Prop :=
  ∀ p ∈ scanModes, ∀ s : State, s.HeadLegal → s.acc = 0 → s.sspeed = 255 →
    (∃ t, execTimes 8 p.1 s = .next t ∧ t.pos = s.pos ∧ t.dir = s.dir ∧ t.acc = 0) ∧
    (∀ n : Nat, 1 ≤ n → n ≤ 7 → ∃ t, execTimes n p.1 s = .next t ∧ (t.pos ≠ s.pos ∨ t.dir ≠ s.dir)) ∧
    (∀ q ∈ [(0 : BitVec 3), 4], ∃ n : Nat, n ≤ 7 ∧ ∃ t, execTimes n p.1 s = .next t ∧ t.pos = q)

/-! ### Boot -/

/-- Boot step INIT sets every register of 10_state.md section 9 to its power-on value (R191; the values are decisions
D16 and D24; what the table leaves open stays, log 25; the wait is log 15). -/
def Obligations.BootInitSetsPowerOnValues : Prop :=
  ∀ s : State, ∃ t, exec .bootInit s = .next t ∧
    t.mode = 0 ∧ t.btnEn = false ∧ t.level = 0 ∧ t.rspeed = Config.rspeedReset ∧ t.sspeed = Config.sspeedReset ∧
    t.btnCur = false ∧ t.btnPrev = false ∧ (∀ i : Fin 5, t.delta[i] = 0) ∧ t.hue = 0 ∧ t.pos = 0 ∧
    t.dir = .forward ∧ t.acc = 0 ∧ t.gpioMode = 0 ∧ t.gpioOut = 0 ∧ t.gpioIn = 0 ∧ (∀ k : Fin 15, t.buf[k] = 0) ∧
    t.rf[0] = Config.fwVersion.extractLsb' 0 8 ∧ t.rf[1] = Config.fwVersion.extractLsb' 8 8 ∧
    t.rf[17] = Config.rspeedReset ∧ t.rf[18] = Config.sspeedReset ∧
    (∀ k : Fin 36, k.val ∉ [0, 1, 17, 18] → t.rf[k] = 0) ∧
    t.ph = 0 ∧ t.mlat = 0 ∧ t.busMask = false ∧ t.busEn = false ∧ t.wire = [] ∧
    t.boot = some .strap ∧ t.base = s.base ∧ t.standalone = s.standalone ∧ t.lastTick = s.lastTick ∧
    t.replies = s.replies ∧ t.env = s.env

/-- Boot step STRAP: `STANDALONE <- Strap()`; if standalone, mode 1 and the button forced on, in the runtime registers
and in `RF[5]` and `RF[20]`; otherwise nothing else (R192; the two `RF` bytes are decision D23). -/
def Obligations.BootStrapForcesStandalone : Prop :=
  ∀ s : State, ∃ t, exec .bootStrap s = .next t ∧ t.standalone = s.env.takeStrap.1 ∧ t.boot = some .calibrate ∧
    (t.standalone = true → t.mode = 1 ∧ t.btnEn = true ∧ t.rf = (s.rf.set 5 1).set 20 1) ∧
    (t.standalone = false → t.mode = s.mode ∧ t.btnEn = s.btnEn ∧ t.rf = s.rf) ∧
    t = { s with
      standalone := t.standalone, boot := t.boot, mode := t.mode, btnEn := t.btnEn, rf := t.rf,
      env := s.env.takeStrap.2 }

/-- Boot step CALIBRATE: "for c in 0..4 (ascending): BASE[c] <- TouchSample(c, CAL_ITER)", with `CAL_ITER` = 10, and
nothing else but the boot position (R111). -/
def Obligations.BootCalibrateCapturesTheBaseline : Prop :=
  ∀ s : State,
    exec .bootCalibrate s = .next { s with
      base := (s.env.takeFive 10).1, env := (s.env.takeFive 10).2, boot := some .selfcheck } ∧
    ∃ e1 e2 e3 e4 : Env,
      e1 = (s.env.takeTouch 0 10).2 ∧ e2 = (e1.takeTouch 1 10).2 ∧ e3 = (e2.takeTouch 2 10).2 ∧
      e4 = (e3.takeTouch 3 10).2 ∧ (s.env.takeFive 10).2 = (e4.takeTouch 4 10).2 ∧
      (s.env.takeFive 10).1 = #v[(s.env.takeTouch 0 10).1, (e1.takeTouch 1 10).1, (e2.takeTouch 2 10).1,
        (e3.takeTouch 3 10).1, (e4.takeTouch 4 10).1]

/-- Boot step SELFCHECK: `ok <- BusLinesHigh()`; if ok the next step is ENABLE, else FALLBACK; nothing else changes
(R194; the boot position and `ok` are log 6). -/
def Obligations.BootSelfcheckBranches : Prop :=
  ∀ s : State, ∃ t, exec .bootSelfcheck s = .next t ∧ t.ok = s.env.takeBusHigh.1 ∧
    (t.ok = true → t.boot = some .enable) ∧ (t.ok = false → t.boot = some .fallback) ∧
    t = { s with ok := t.ok, boot := t.boot, env := s.env.takeBusHigh.2 }

/-- Boot step FALLBACK sends the fallback frame and leaves `BUS_EN`, `BUF` and `RF` as they are; boot step ENABLE sets
`BUS_EN` only if the self-check passed, `LAST_TICK <- Now()`, `PH <- 0`, and ends boot (R195, R196; decisions D17,
D18, D36; the waits are log 15, the counter log 5). -/
def Obligations.BootFallbackAndEnable : Prop :=
  (∀ s : State, ∃ t, exec .bootFallback s = .next t ∧ t.wire = s.wire ++ frameSymbols Config.fallback ∧
    t.boot = some .enable ∧ (s.busMask = false → t = { s with wire := t.wire, boot := t.boot, now := t.now })) ∧
  (∀ s : State, ∃ t, exec .bootEnable s = .next t ∧ t.boot = none ∧ t.ph = 0 ∧
    t.now = s.now + s.env.takeElapsed.1 ∧ t.lastTick = t.now ∧
    (s.ok = true → t.busEn = true) ∧ (s.ok = false → t.busEn = s.busEn) ∧
    t = { s with
      boot := none, ph := 0, now := t.now, lastTick := t.lastTick, busEn := t.busEn, env := s.env.takeElapsed.2 })

/-- Power-on leads to the tick loop: from boot step INIT the machine takes five steps, after which the bus is enabled
and the line has carried nothing, or six, after which the bus is disabled and the line has carried the fallback frame;
boot has then ended with `PH = 0`, `BUS_EN` is what the self-check found, `LAST_TICK` is the counter, and the mode and
the button are 1 and enabled when standalone, 0 and disabled when not (R190 to R196; decisions D16, D17, D18, D23). -/
def Obligations.BootReachesTheTickLoop : Prop :=
  ∀ s : State, s.boot = some .init → ∃ t,
    (stepTimes 5 s = .next t ∧ t.busEn = true ∧ t.wire = [] ∨
      stepTimes 6 s = .next t ∧ t.busEn = false ∧ t.wire = frameSymbols Config.fallback) ∧
    t.boot = none ∧ t.ph = 0 ∧ t.busEn = t.ok ∧ t.lastTick = t.now ∧
    (t.standalone = true → t.mode = 1 ∧ t.rf[5] = 1 ∧ t.btnEn = true ∧ t.rf[20] = 1) ∧
    (t.standalone = false → t.mode = 0 ∧ t.rf[5] = 0 ∧ t.btnEn = false ∧ t.rf[20] = 0)

/-! ### Rules of the whole machine -/

/-- The state at power-on satisfies the invariant (10_state.md section 9; decision D16). -/
def Obligations.PowerOnSatisfiesTheInvariant : Prop := State.Inv State.reset

/-- Every step keeps the invariant: the scanner head stays in 0 to 4 and turns at the ends, the host-owned pairs never
differ, the firmware version and the reserved bits stay, `BUSMASK` is 0 at every step boundary, the bus is off
throughout boot, and a tick transmits only a mode that was rendered (R10, R23, R73, R96, R133, R135, R190). -/
def Obligations.StepKeepsTheInvariant : Prop :=
  ∀ s t : State, s.Inv → step s = .next t → t.Inv

/-- The block never stops: from a state that satisfies the invariant every step completes, but for phase RENDER in a
reserved mode, which the spec refuses (R133, R145, R170; decision D8). -/
def Obligations.StepStopsOnlyOnAReservedMode : Prop :=
  ∀ s : State, s.Inv → (∃ t, step s = .next t) ∨
    step s = .refused .reservedMode ∧ s.boot = none ∧ s.ph = 5 ∧ 8 ≤ s.mode.toNat

/-- Only boot step CALIBRATE writes the baseline: "No recalibration occurs later" (R17, R111, R202). -/
def Obligations.BaselineWrittenOnlyByCalibrate : Prop :=
  ∀ (i : Instr) (s t : State), exec i s = .next t → t.base ≠ s.base → i = .bootCalibrate

/-- Which operations write the registers of the renderer (R19, R20, R24; INIT is R191). -/
def Obligations.RendererRegisterWriters : Prop :=
  ∀ (i : Instr) (s t : State), exec i s = .next t → i ≠ .bootInit →
    (t.hue ≠ s.hue → i = .mRainbow ∨ i = .phRender ∧ s.mode = 2) ∧
    ((t.pos ≠ s.pos ∨ t.dir ≠ s.dir ∨ t.acc ≠ s.acc) →
      i ∈ [.mScanR, .mScanG, .mScanB] ∨ i = .phRender ∧ 5 ≤ s.mode.toNat ∧ s.mode.toNat ≤ 7) ∧
    (t.buf ≠ s.buf →
      i ∈ [.mSocial, .mRainbow, .mPalA, .mPalB, .mScanR, .mScanG, .mScanB] ∨
        i = .phRender ∧ 1 ≤ s.mode.toNat ∧ s.mode.toNat ≤ 7) ∧
    (t.mlat ≠ s.mlat → i = .phRender)

/-- Which operations write the sensing, sequencing and bus-enable registers (R12, R16, R18, R21, R22, R23; INIT is
R191). -/
def Obligations.SensorRegisterWriters : Prop :=
  ∀ (i : Instr) (s t : State), exec i s = .next t → i ≠ .bootInit →
    (t.delta ≠ s.delta → i = .phTouch) ∧
    (t.level ≠ s.level → i = .phTouch ∨ i = .wrLevel t.level) ∧
    (t.btnCur ≠ s.btnCur ∨ t.btnPrev ≠ s.btnPrev → i = .phButton) ∧
    (t.gpioIn ≠ s.gpioIn → i = .phGpio) ∧
    (t.lastTick ≠ s.lastTick → i = .phWait ∨ i = .bootEnable) ∧
    (t.busEn ≠ s.busEn → i = .bootEnable) ∧
    (t.standalone ≠ s.standalone → i = .bootStrap)

/-- Which operations write the registers the host owns: the write of their own index, and for the button enable also
boot step STRAP (R13, R14, R15, R21; INIT is R191; decision D1). -/
def Obligations.HostOwnedRegisterWriters : Prop :=
  ∀ (i : Instr) (s t : State), exec i s = .next t → i ≠ .bootInit →
    (t.rspeed ≠ s.rspeed → i = .wrRspeed t.rspeed) ∧
    (t.sspeed ≠ s.sspeed → i = .wrSspeed t.sspeed) ∧
    (t.gpioMode ≠ s.gpioMode → ∃ v : Byte, i = .wrGpiomode v ∧ t.gpioMode = v.extractLsb' 0 4) ∧
    (t.gpioOut ≠ s.gpioOut → ∃ v : Byte, i = .wrGpioout v ∧ t.gpioOut = v.extractLsb' 0 4) ∧
    (t.btnEn ≠ s.btnEn → i = .bootStrap ∧ t.btnEn = true ∨ ∃ v : Byte, i = .wrBtnen v ∧ t.btnEn = decide (v ≠ 0))

/-- `MODE` changes in exactly three ways: boot, a host write to index 5, an enabled press edge in phase BUTTON, which
steps it to a mode in 1 to 7 (R134; decisions D8, D9). -/
def Obligations.ModeChangesInThreeWays : Prop :=
  ∀ (i : Instr) (s t : State), exec i s = .next t → t.mode ≠ s.mode →
    i = .bootInit ∨ i = .bootStrap ∨ i = .wrMode t.mode ∨
      i = .phButton ∧ s.btnEn = true ∧ s.btnCur = false ∧ t.btnCur = true ∧
        1 ≤ t.mode.toNat ∧ t.mode.toNat ≤ 7

/-- `WIRE` only grows: by its own symbol for a symbol operation, by one whole frame for TRANSMIT and FALLBACK, by nothing
for every other operation, power-on apart (R160; decision D19). -/
def Obligations.WireOnlyGrows : Prop :=
  ∀ (i : Instr) (s t : State), exec i s = .next t → i ≠ .bootInit →
    ∃ l : List Sym, t.wire = s.wire ++ l ∧
      (i = .symS0 → l = [.s0]) ∧ (i = .symS1 → l = [.s1]) ∧
      (i = .phTransmit ∨ i = .bootFallback → ∃ f : Frame, l = frameSymbols f) ∧
      (i ∉ [.symS0, .symS1, .phTransmit, .bootFallback] → l = [])

/-- The phases follow one another in the order of `PH`, WAIT alone may stay, and a bus operation leaves `PH` where it is
(R46, R145, R146; decision D3). -/
def Obligations.PhasesFollowInOrder : Prop :=
  ∀ s t : State, s.boot = none → step s = .next t →
    (s.env.takeTurn.1 = .bus ∧ s.busEn = true ∧ s.busMask = false → t.ph = s.ph) ∧
    (¬(s.env.takeTurn.1 = .bus ∧ s.busEn = true ∧ s.busMask = false) →
      t.ph = s.ph + 1 ∨ s.ph = 0 ∧ t.ph = 0)

/-- With `BUS_EN = 0` after boot "no bus operation ever occurs": on every run the bus stays disabled, the host gets no
byte, none of its operations is taken, and the registers only the host writes stay (R80, R195; decision D35). -/
def Obligations.DisabledBusIsNeverServed : Prop :=
  ∀ (n : Nat) (s t : State), s.boot = none → s.busEn = false → stepTimes n s = .next t →
    t.boot = none ∧ t.busEn = false ∧ t.replies = s.replies ∧ t.env.hostOps = s.env.hostOps ∧
    t.rspeed = s.rspeed ∧ t.sspeed = s.sspeed ∧ t.btnEn = s.btnEn ∧ t.gpioMode = s.gpioMode ∧ t.gpioOut = s.gpioOut

/-- One tick sends exactly one frame, in every mode 0 to 7: after the seven phases that follow WAIT, with no bus
operation between them, the sequencer is back at WAIT, one frame has gone out, the sensed values are published (the
pins, the mode, the five deltas, the level and the button bits), and what the host reads in `RF[21..35]` is the frame
that was sent (R145, R150, R152, R153; decisions D2, D3, D29, D33). -/
def Obligations.TickSendsOneFrame : Prop :=
  ∀ (s : State) (rest : List Agent), s.Inv → s.boot = none → s.ph = 1 → s.mode.toNat ≤ 7 →
    s.env.turns = List.replicate 7 .tick ++ rest →
    ∃ t, stepTimes 7 s = .next t ∧ t.ph = 0 ∧ t.env.turns = rest ∧
      t.wire = s.wire ++ frameSymbols (ledBytes t.rf) ∧ (t.mode ≠ 0 → ledBytes t.rf = t.buf) ∧
      t.mlat = t.mode ∧ t.rf[5] = t.mode ∧ t.rf[16] = t.level ∧ t.rf[3] = t.gpioIn.setWidth 8 ∧
      (∀ i : Fin 5, t.rf[6 + 2 * i.val]'(by show _ < 36; omega) = t.delta[i].extractLsb' 0 8 ∧
        t.rf[7 + 2 * i.val]'(by show _ < 36; omega) = t.delta[i].extractLsb' 8 8) ∧
      (∀ b : Nat, t.rf[19].getLsbD b = (decide (b = 0) && t.btnCur || decide (b = 1) && t.btnPrev))

/-- "Round-trip: writing LED color bytes 21–35 while mode==0, then triggering transmission, reproduces exactly those 15
bytes on the wire" (R93, R153): the fifteen writes, then TRANSMIT of a tick that dispatched on mode 0. -/
def Obligations.PassthroughRoundTrip : Prop :=
  ∀ (f : Frame) (s : State), s.mode = 0 → s.mlat = 0 →
    ∃ t, execAll (frameWrites f ++ [.phTransmit]) s = .next t ∧ t.wire = s.wire ++ frameSymbols f ∧
      ∀ k : Fin 15, t.rf[21 + k.val]'(by show _ < 36; omega) = f[k]
end

