-- ==== Sys2Proof/Laws/Arith.lean ====
section
/-! SUPPORT. The sizes of R7 as numerals, and what the arithmetic, the flag tests and the frame constructions compute. -/

namespace Sys2Proof

/-! ### The sizes of R7 as numerals, for simp -/

@[simp] theorem Config.nLed_eq : Config.nLed = 5 := rfl
@[simp] theorem Config.nChan_eq : Config.nChan = 3 := rfl
@[simp] theorem Config.nBuf_eq : Config.nBuf = 15 := rfl
@[simp] theorem Config.nTouch_eq : Config.nTouch = 5 := rfl
@[simp] theorem Config.nReg_eq : Config.nReg = 36 := rfl
@[simp] theorem Config.nMode_eq : Config.nMode = 8 := rfl
@[simp] theorem Config.lastMode_eq : Config.lastMode = 7 := rfl

/-- `N_BUF = N_LED × N_CHAN` (R7). -/
theorem Config.nBuf_eq_mul : Config.nBuf = Config.nLed * Config.nChan := rfl

end Sys2Proof

namespace Sys2Proof.Machine

@[simp] theorem lastLed_eq : lastLed = 4 := rfl

@[simp] theorem satAdd8_toNat (a : Byte) (k : Nat) : (satAdd8 a k).toNat = min (a.toNat + k) 255 := by
  simp only [satAdd8, BitVec.toNat_ofNat]; omega

@[simp] theorem satSub8_toNat (a : Byte) (k : Nat) : (satSub8 a k).toNat = a.toNat - k := by
  simp only [satSub8, BitVec.toNat_ofNat]; omega

@[simp] theorem levelGreen_toNat (l : Byte) : (levelGreen l).toNat = min (50 * l.toNat) 255 := by
  simp only [levelGreen, Config.levelStep, BitVec.toNat_ofNat]; omega

@[simp] theorem levelRed_toNat (l : Byte) : (levelRed l).toNat = 255 - 50 * l.toNat := by
  simp only [levelRed, Config.levelStep, BitVec.toNat_ofNat]; omega

theorem advanceMode_toNat (m : Byte) :
    (advanceMode m).toNat = if 7 ≤ m.toNat then 1 else m.toNat + 1 := by
  simp only [advanceMode, Config.lastMode_eq]
  split <;> simp; omega

/-- The advance always changes the mode and lands in 1 to 7 (R142). -/
theorem advanceMode_range (m : Byte) :
    advanceMode m ≠ m ∧ 1 ≤ (advanceMode m).toNat ∧ (advanceMode m).toNat ≤ 7 := by
  have h := advanceMode_toNat m
  refine ⟨fun e => ?_, ?_, ?_⟩
  · rw [e] at h; split at h <;> omega
  all_goals (split at h <;> omega)

theorem enabledBy_eq (v : Byte) : enabledBy v = decide (v ≠ 0) := by
  revert v; decide

theorem acc_succ_toNat (a : Byte) : (a + 1).toNat = (a.toNat + 1) % 256 := by
  simp [BitVec.toNat_add]

theorem headMoves_iff (acc sspeed : Byte) :
    headMoves acc sspeed = true ↔ 255 - sspeed.toNat < (acc.toNat + 1) % 256 := by
  simp [headMoves, Config.scanThresh]

theorem exceedsLevel_iff (d : Count) : exceedsLevel d = true ↔ 1900 < d.toInt := by
  simp [exceedsLevel]

theorem exceedsActive_iff (d : Count) : exceedsActive d = true ↔ 2000 < d.toInt := by
  simp [exceedsActive]

theorem periodElapsed_iff (t last : Ticks) :
    periodElapsed t last = true ↔ 20 * Config.tickUnit ≤ (t - last).toNat := by
  simp [periodElapsed]

/-! ### The scan of the channels (R112) -/

/-- The scan, channel by channel. -/
theorem lastHit_eq (d : PerChannel Count) : lastHit d =
    ([0, 1, 2, 3, 4] : List (Fin 5)).foldl (fun hit i => if exceedsLevel d[i] then some i else hit) none := rfl

theorem lastHit_none {d : PerChannel Count} (h : ∀ i : Fin 5, exceedsLevel d[i] = false) : lastHit d = none := by
  have h0 := h 0
  have h1 := h 1
  have h2 := h 2
  have h3 := h 3
  have h4 := h 4
  simp_all [lastHit_eq]

theorem lastHit_some {d : PerChannel Count} {i : Fin 5} (hi : exceedsLevel d[i] = true)
    (hj : ∀ j : Fin 5, i < j → exceedsLevel d[j] = false) : lastHit d = some i := by
  have a1 := hj 1
  have a2 := hj 2
  have a3 := hj 3
  have a4 := hj 4
  match i, hi with
  | 0, hi => simp_all [lastHit_eq]
  | 1, hi => simp_all [lastHit_eq]
  | 2, hi => simp_all [lastHit_eq]
  | 3, hi => simp_all [lastHit_eq]
  | 4, hi => simp_all [lastHit_eq]

/-- The detector produces no level above `LEVEL_MAX` (R7); a level above it is the host's and stays (R113). -/
theorem levelAfter_le (d : PerChannel Count) (old : Byte) :
    (levelAfter d old).toNat ≤ Config.levelMax ∨ lastHit d = none ∧ levelAfter d old = old := by
  unfold levelAfter
  split
  · next i _ =>
    have h : i.val < 5 := i.isLt
    left
    show _ ≤ 4
    simp only [BitVec.toNat_ofNat]
    omega
  · next h => exact .inr ⟨h, rfl⟩

/-! ### The button status byte (R35) -/

theorem buttonByte_bit (prev cur : Bool) (b : Nat) :
    (buttonByte prev cur).getLsbD b = (decide (b = 0) && cur || decide (b = 1) && prev) := by
  by_cases hb : b < 8
  · cases prev <;> cases cur <;> interval_cases b <;> decide
  · have h0 : b ≠ 0 := by omega
    have h1 : b ≠ 1 := by omega
    rw [BitVec.getLsbD_of_ge _ _ (by omega)]
    simp [h0, h1]

/-! ### Frames -/

theorem grbFrame_green (c : Fin 5 → Rgb) (i : Fin 5) : (grbFrame c)[3 * i.val]'(by show _ < 15; omega) = (c i).g := by
  have h : 3 * i.val / 3 = i.val := by omega
  simp [grbFrame, rgbChannel, h]

theorem grbFrame_red (c : Fin 5 → Rgb) (i : Fin 5) : (grbFrame c)[3 * i.val + 1]'(by show _ < 15; omega) = (c i).r := by
  have h : (3 * i.val + 1) / 3 = i.val := by omega
  have h' : (3 * i.val + 1) % 3 = 1 := by omega
  simp [grbFrame, rgbChannel, h, h']

theorem grbFrame_blue (c : Fin 5 → Rgb) (i : Fin 5) : (grbFrame c)[3 * i.val + 2]'(by show _ < 15; omega) = (c i).b := by
  have h : (3 * i.val + 2) / 3 = i.val := by omega
  have h' : (3 * i.val + 2) % 3 = 2 := by omega
  simp [grbFrame, rgbChannel, h, h']

@[simp] theorem ledBytes_get (rf : RegFile) (k : Nat) (h : k < 15) :
    (ledBytes rf)[k] = rf[21 + k]'(by show _ < 36; omega) := by
  simp [ledBytes]

theorem withLedBytes_led (rf : RegFile) (f : Frame) (k : Nat) (h : k < 15) :
    (withLedBytes rf f)[21 + k]'(by show _ < 36; omega) = f[k] := by
  simp [withLedBytes]

theorem withLedBytes_low (rf : RegFile) (f : Frame) (k : Nat) (h : k < 21) :
    (withLedBytes rf f)[k]'(by show _ < 36; omega) = rf[k]'(by show _ < 36; omega) := by
  have h' : ¬ 21 ≤ k := by omega
  simp [withLedBytes, h']

@[simp] theorem ledBytes_withLedBytes (rf : RegFile) (f : Frame) : ledBytes (withLedBytes rf f) = f := by
  ext k h : 1
  rw [ledBytes_get _ _ h, withLedBytes_led _ _ _ h]

theorem scanFrame_toNat (c : Nat) (p : BitVec 3) (f : Frame) (k : Nat) (h : k < 15) :
    ((scanFrame c p f)[k]).toNat =
      if k = 3 * p.toNat + c then min ((f[k].toNat - 10) + 50) 255 else f[k].toNat - 10 := by
  simp only [scanFrame, Config.decayStep, Config.rampStep, Vector.getElem_ofFn]
  split <;> simp [*]

/-! ### The line -/

@[simp] theorem byteBits_length (b : Byte) : (byteBits b).length = 8 := rfl

theorem byteBits_get (b : Byte) (j : Nat) (h : j < 8) : (byteBits b)[j]? = some (b.getLsbD (7 - j)) := by
  rcases j with _ | _ | _ | _ | _ | _ | _ | _ | j <;> first | rfl | omega

theorem flatMap_byteBits_get (l : List Byte) : ∀ n : Nat, n < 8 * l.length →
    (l.flatMap byteBits)[n]? = (l[n / 8]?).map fun b => b.getLsbD (7 - n % 8) := by
  induction l with
  | nil => intro n h; simp at h
  | cons b bs ih =>
    intro n h
    simp only [List.flatMap_cons, List.length_cons] at h ⊢
    by_cases hn : n < 8
    · have h0 : n / 8 = 0 := by omega
      have h1 : n % 8 = n := by omega
      rw [List.getElem?_append_left (by simpa using hn), byteBits_get b n hn, h0, h1]
      rfl
    · have h0 : n / 8 = (n - 8) / 8 + 1 := by omega
      have h1 : n % 8 = (n - 8) % 8 := by omega
      rw [List.getElem?_append_right (by simp; omega), byteBits_length, ih (n - 8) (by omega), h0, h1]
      rfl

@[simp] theorem frameBits_length (f : Frame) : (frameBits f).length = 120 := by
  simp only [frameBits, List.length_flatMap, byteBits_length, List.map_const', List.sum_replicate,
    Vector.length_toList]
  rfl

/-- Frame bit number `n` is bit `7 - (n mod 8)` of frame byte `n div 8` (R65). -/
theorem frameBits_get (f : Frame) (n : Nat) (h : n < 120) :
    (frameBits f)[n]? = some ((f[n / 8]'(by show _ < 15; omega)).getLsbD (7 - n % 8)) := by
  have hf : f.toList.length = 15 := Vector.length_toList
  have hl : n < 8 * f.toList.length := by omega
  have hi : n / 8 < f.toList.length := by omega
  rw [frameBits, flatMap_byteBits_get _ _ hl, List.getElem?_eq_getElem hi]
  simp

end Sys2Proof.Machine
end

