-- ==== Sys2Proof/Laws/Decode.lean ====
section
/-! SUPPORT. The fields of a bus word, and what a word that fits its format decodes to. -/

namespace Sys2Proof

/-- A concatenation is a sum of shifted parts. -/
theorem toNat_append_add {m n : Nat} (x : BitVec m) (y : BitVec n) :
    (x ++ y).toNat = 2 ^ n * x.toNat + y.toNat := by
  rw [BitVec.toNat_append, ← Nat.shiftLeft_add_eq_or_of_lt y.isLt, Nat.shiftLeft_eq, Nat.mul_comm]

/-- The number of a bus word, `{space, wr, index, data}` (R67). -/
theorem busWord_toNat (sp wr : Bool) (idx v : Byte) :
    (busWord sp wr idx v).toNat = 0x20000 * sp.toNat + 0x10000 * wr.toNat + 256 * idx.toNat + v.toNat := by
  simp only [busWord, toNat_append_add, BitVec.toNat_ofBool]
  omega

theorem getLsbD_eq_div (w : BusWord) (n : Nat) : w.getLsbD n = decide (w.toNat / 2 ^ n % 2 = 1) := by
  rw [BitVec.getLsbD, Nat.testBit_eq_decide_div_mod_eq]

@[simp] theorem busWord_isIdentity (sp wr : Bool) (idx v : Byte) :
    BusWord.isIdentity (busWord sp wr idx v) = sp := by
  have hi := idx.isLt
  have hv := v.isLt
  rw [BusWord.isIdentity, getLsbD_eq_div, busWord_toNat]
  cases sp <;> cases wr <;> simp <;> omega

@[simp] theorem busWord_isWrite (sp wr : Bool) (idx v : Byte) :
    BusWord.isWrite (busWord sp wr idx v) = wr := by
  have hi := idx.isLt
  have hv := v.isLt
  rw [BusWord.isWrite, getLsbD_eq_div, busWord_toNat]
  cases sp <;> cases wr <;> simp <;> omega

@[simp] theorem busWord_index (sp wr : Bool) (idx v : Byte) : BusWord.index (busWord sp wr idx v) = idx := by
  have hi := idx.isLt
  have hv := v.isLt
  apply BitVec.eq_of_toNat_eq
  rw [BusWord.index, BitVec.extractLsb'_toNat, busWord_toNat, Nat.shiftRight_eq_div_pow]
  cases sp <;> cases wr <;> simp <;> omega

@[simp] theorem busWord_data (sp wr : Bool) (idx v : Byte) : BusWord.data (busWord sp wr idx v) = v := by
  have hi := idx.isLt
  have hv := v.isLt
  apply BitVec.eq_of_toNat_eq
  rw [BusWord.data, BitVec.extractLsb'_toNat, busWord_toNat, Nat.shiftRight_eq_div_pow]
  cases sp <;> cases wr <;> simp <;> omega

/-- A bus word is made of its fields. -/
theorem busWord_eta (w : BusWord) :
    busWord (BusWord.isIdentity w) (BusWord.isWrite w) (BusWord.index w) (BusWord.data w) = w := by
  have hw := w.isLt
  apply BitVec.eq_of_toNat_eq
  rw [busWord_toNat, BusWord.isIdentity, BusWord.isWrite, BusWord.index, BusWord.data, getLsbD_eq_div,
    getLsbD_eq_div, BitVec.extractLsb'_toNat, BitVec.extractLsb'_toNat, Nat.shiftRight_eq_div_pow,
    Nat.shiftRight_eq_div_pow]
  have b0 : ∀ p : Nat, (decide (p % 2 = 1)).toNat = p % 2 := by
    intro p; rcases Nat.mod_two_eq_zero_or_one p with h | h <;> simp [h]
  rw [b0, b0]
  omega

@[simp] theorem decode_wrWord (idx v : Byte) : decode .busop (wrWord idx v) = .ok (decodeWrite idx v) := by
  have h := (wrWord idx v).isLt
  simp only [decode, Format.width, h, if_true, decodeBusop]
  simp [wrWord]

@[simp] theorem decode_rdWord (idx : Byte) : decode .busop (rdWord idx) = .ok (decodeRead idx) := by
  have h := (rdWord idx).isLt
  simp only [decode, Format.width, h, if_true, decodeBusop]
  simp [rdWord]

@[simp] theorem decode_modeWord (m : Byte) : decode .mode (m.setWidth 18) = .ok (decodeMode m) := by
  have hm := m.isLt
  have hs : (m.setWidth 18).setWidth 8 = m := by simp
  have hw : (m.setWidth 18).toNat < 2 ^ 8 := by simp; omega
  simp only [decode, Format.width, hw, if_true, hs]

@[simp] theorem decode_phaseWord (p : BitVec 3) : decode .phase (p.setWidth 18) = .ok (decodePhase p) := by
  have hp := p.isLt
  have hs : (p.setWidth 18).setWidth 3 = p := by simp
  have hw : (p.setWidth 18).toNat < 2 ^ 3 := by simp; omega
  simp only [decode, Format.width, hw, if_true, hs]

/-- The instruction of a boot step. -/
def BootStep.instr : BootStep → Instr
  | .init => .bootInit
  | .strap => .bootStrap
  | .calibrate => .bootCalibrate
  | .selfcheck => .bootSelfcheck
  | .fallback => .bootFallback
  | .enable => .bootEnable

@[simp] theorem decode_bootWord (b : BootStep) : decode .boot (b.code.setWidth 18) = .ok b.instr := by
  cases b <;> rfl

/-! ### What the tables of each format give: a well-formed instruction of the format that encodes the word -/

theorem inRange_iff {lo hi : Nat} {b : Byte} : inRange lo hi b = true ↔ lo ≤ b.toNat ∧ b.toNat ≤ hi := by
  simp [inRange]

theorem byte_eq {b : Byte} {n : Nat} (h : b.toNat = n) : b = BitVec.ofNat 8 n := by
  rw [← h]; simp

theorem decodeWrite_spec (idx v : Byte) :
    (decodeWrite idx v).wf = true ∧ (decodeWrite idx v).format = .busop ∧
      encode (decodeWrite idx v) = wrWord idx v := by
  have hi := idx.isLt
  unfold decodeWrite
  split
  case h_37 n h0 _ _ _ _ _ _ _ _ _ _ _ _ _ _ _ _ _ _ _ _ _ _ _ _ _ _ _ _ _ _ _ _ _ _ _ =>
    simp only [imp_false] at *
    (repeat' split) <;> refine ⟨?_, rfl, rfl⟩ <;> simp only [Instr.wf, inRange_iff] <;> omega
  all_goals
    next h => exact ⟨rfl, rfl, by rw [byte_eq h]; rfl⟩

theorem decodeRead_spec (idx : Byte) :
    (decodeRead idx).wf = true ∧ (decodeRead idx).format = .busop ∧ encode (decodeRead idx) = rdWord idx := by
  have hi := idx.isLt
  unfold decodeRead
  split
  case h_37 n h0 _ _ _ _ _ _ _ _ _ _ _ _ _ _ _ _ _ _ _ _ _ _ _ _ _ _ _ _ _ _ _ _ _ _ _ =>
    simp only [imp_false] at *
    (repeat' split) <;> refine ⟨?_, rfl, rfl⟩ <;> simp only [Instr.wf, inRange_iff] <;> omega
  all_goals
    next h => exact ⟨rfl, rfl, by rw [byte_eq h]; rfl⟩

theorem decodeMode_spec (m : Byte) :
    (decodeMode m).wf = true ∧ (decodeMode m).format = .mode ∧ encode (decodeMode m) = m.setWidth 18 := by
  have hi := m.isLt
  unfold decodeMode
  split
  case h_9 n h0 _ _ _ _ _ _ _ =>
    simp only [imp_false] at *
    (repeat' split) <;> refine ⟨?_, rfl, rfl⟩ <;> simp only [Instr.wf, inRange_iff] <;> omega
  all_goals
    next h => exact ⟨rfl, rfl, by rw [byte_eq h]; rfl⟩

theorem decodePhase_spec (p : BitVec 3) :
    (decodePhase p).wf = true ∧ (decodePhase p).format = .phase ∧ encode (decodePhase p) = p.setWidth 18 := by
  revert p; decide

end Sys2Proof
end

