-- ==== Sys2Proof/Laws/State.lean ====
section
/-! SUPPORT. One lemma per field per named state update, each true by rfl, so that no later proof unfolds an
update. -/

namespace Sys2Proof.Machine

/-! ### setRf -/

@[simp] theorem State.setRf_boot (i : Fin Config.nReg) (v : Byte) (s : State) : (s.setRf i v).boot = s.boot := rfl
@[simp] theorem State.setRf_ok (i : Fin Config.nReg) (v : Byte) (s : State) : (s.setRf i v).ok = s.ok := rfl
@[simp] theorem State.setRf_mode (i : Fin Config.nReg) (v : Byte) (s : State) : (s.setRf i v).mode = s.mode := rfl
@[simp] theorem State.setRf_level (i : Fin Config.nReg) (v : Byte) (s : State) : (s.setRf i v).level = s.level := rfl
@[simp] theorem State.setRf_rspeed (i : Fin Config.nReg) (v : Byte) (s : State) : (s.setRf i v).rspeed = s.rspeed := rfl
@[simp] theorem State.setRf_sspeed (i : Fin Config.nReg) (v : Byte) (s : State) : (s.setRf i v).sspeed = s.sspeed := rfl
@[simp] theorem State.setRf_btnEn (i : Fin Config.nReg) (v : Byte) (s : State) : (s.setRf i v).btnEn = s.btnEn := rfl
@[simp] theorem State.setRf_btnCur (i : Fin Config.nReg) (v : Byte) (s : State) : (s.setRf i v).btnCur = s.btnCur := rfl
@[simp] theorem State.setRf_btnPrev (i : Fin Config.nReg) (v : Byte) (s : State) : (s.setRf i v).btnPrev = s.btnPrev := rfl
@[simp] theorem State.setRf_base (i : Fin Config.nReg) (v : Byte) (s : State) : (s.setRf i v).base = s.base := rfl
@[simp] theorem State.setRf_delta (i : Fin Config.nReg) (v : Byte) (s : State) : (s.setRf i v).delta = s.delta := rfl
@[simp] theorem State.setRf_hue (i : Fin Config.nReg) (v : Byte) (s : State) : (s.setRf i v).hue = s.hue := rfl
@[simp] theorem State.setRf_pos (i : Fin Config.nReg) (v : Byte) (s : State) : (s.setRf i v).pos = s.pos := rfl
@[simp] theorem State.setRf_dir (i : Fin Config.nReg) (v : Byte) (s : State) : (s.setRf i v).dir = s.dir := rfl
@[simp] theorem State.setRf_acc (i : Fin Config.nReg) (v : Byte) (s : State) : (s.setRf i v).acc = s.acc := rfl
@[simp] theorem State.setRf_gpioMode (i : Fin Config.nReg) (v : Byte) (s : State) : (s.setRf i v).gpioMode = s.gpioMode := rfl
@[simp] theorem State.setRf_gpioOut (i : Fin Config.nReg) (v : Byte) (s : State) : (s.setRf i v).gpioOut = s.gpioOut := rfl
@[simp] theorem State.setRf_gpioIn (i : Fin Config.nReg) (v : Byte) (s : State) : (s.setRf i v).gpioIn = s.gpioIn := rfl
@[simp] theorem State.setRf_ph (i : Fin Config.nReg) (v : Byte) (s : State) : (s.setRf i v).ph = s.ph := rfl
@[simp] theorem State.setRf_inside (i : Fin Config.nReg) (v : Byte) (s : State) : (s.setRf i v).inside = s.inside := rfl
@[simp] theorem State.setRf_lastTick (i : Fin Config.nReg) (v : Byte) (s : State) : (s.setRf i v).lastTick = s.lastTick := rfl
@[simp] theorem State.setRf_mlat (i : Fin Config.nReg) (v : Byte) (s : State) : (s.setRf i v).mlat = s.mlat := rfl
@[simp] theorem State.setRf_busMask (i : Fin Config.nReg) (v : Byte) (s : State) : (s.setRf i v).busMask = s.busMask := rfl
@[simp] theorem State.setRf_busEn (i : Fin Config.nReg) (v : Byte) (s : State) : (s.setRf i v).busEn = s.busEn := rfl
@[simp] theorem State.setRf_standalone (i : Fin Config.nReg) (v : Byte) (s : State) : (s.setRf i v).standalone = s.standalone := rfl
@[simp] theorem State.setRf_buf (i : Fin Config.nReg) (v : Byte) (s : State) : (s.setRf i v).buf = s.buf := rfl
@[simp] theorem State.setRf_rf (i : Fin Config.nReg) (v : Byte) (s : State) : (s.setRf i v).rf = s.rf.set i v := rfl
@[simp] theorem State.setRf_wire (i : Fin Config.nReg) (v : Byte) (s : State) : (s.setRf i v).wire = s.wire := rfl
@[simp] theorem State.setRf_now (i : Fin Config.nReg) (v : Byte) (s : State) : (s.setRf i v).now = s.now := rfl
@[simp] theorem State.setRf_replies (i : Fin Config.nReg) (v : Byte) (s : State) : (s.setRf i v).replies = s.replies := rfl
@[simp] theorem State.setRf_env (i : Fin Config.nReg) (v : Byte) (s : State) : (s.setRf i v).env = s.env := rfl

/-! ### reply -/

@[simp] theorem State.reply_boot (b : Byte) (s : State) : (s.reply b).boot = s.boot := rfl
@[simp] theorem State.reply_ok (b : Byte) (s : State) : (s.reply b).ok = s.ok := rfl
@[simp] theorem State.reply_mode (b : Byte) (s : State) : (s.reply b).mode = s.mode := rfl
@[simp] theorem State.reply_level (b : Byte) (s : State) : (s.reply b).level = s.level := rfl
@[simp] theorem State.reply_rspeed (b : Byte) (s : State) : (s.reply b).rspeed = s.rspeed := rfl
@[simp] theorem State.reply_sspeed (b : Byte) (s : State) : (s.reply b).sspeed = s.sspeed := rfl
@[simp] theorem State.reply_btnEn (b : Byte) (s : State) : (s.reply b).btnEn = s.btnEn := rfl
@[simp] theorem State.reply_btnCur (b : Byte) (s : State) : (s.reply b).btnCur = s.btnCur := rfl
@[simp] theorem State.reply_btnPrev (b : Byte) (s : State) : (s.reply b).btnPrev = s.btnPrev := rfl
@[simp] theorem State.reply_base (b : Byte) (s : State) : (s.reply b).base = s.base := rfl
@[simp] theorem State.reply_delta (b : Byte) (s : State) : (s.reply b).delta = s.delta := rfl
@[simp] theorem State.reply_hue (b : Byte) (s : State) : (s.reply b).hue = s.hue := rfl
@[simp] theorem State.reply_pos (b : Byte) (s : State) : (s.reply b).pos = s.pos := rfl
@[simp] theorem State.reply_dir (b : Byte) (s : State) : (s.reply b).dir = s.dir := rfl
@[simp] theorem State.reply_acc (b : Byte) (s : State) : (s.reply b).acc = s.acc := rfl
@[simp] theorem State.reply_gpioMode (b : Byte) (s : State) : (s.reply b).gpioMode = s.gpioMode := rfl
@[simp] theorem State.reply_gpioOut (b : Byte) (s : State) : (s.reply b).gpioOut = s.gpioOut := rfl
@[simp] theorem State.reply_gpioIn (b : Byte) (s : State) : (s.reply b).gpioIn = s.gpioIn := rfl
@[simp] theorem State.reply_ph (b : Byte) (s : State) : (s.reply b).ph = s.ph := rfl
@[simp] theorem State.reply_inside (b : Byte) (s : State) : (s.reply b).inside = s.inside := rfl
@[simp] theorem State.reply_lastTick (b : Byte) (s : State) : (s.reply b).lastTick = s.lastTick := rfl
@[simp] theorem State.reply_mlat (b : Byte) (s : State) : (s.reply b).mlat = s.mlat := rfl
@[simp] theorem State.reply_busMask (b : Byte) (s : State) : (s.reply b).busMask = s.busMask := rfl
@[simp] theorem State.reply_busEn (b : Byte) (s : State) : (s.reply b).busEn = s.busEn := rfl
@[simp] theorem State.reply_standalone (b : Byte) (s : State) : (s.reply b).standalone = s.standalone := rfl
@[simp] theorem State.reply_buf (b : Byte) (s : State) : (s.reply b).buf = s.buf := rfl
@[simp] theorem State.reply_rf (b : Byte) (s : State) : (s.reply b).rf = s.rf := rfl
@[simp] theorem State.reply_wire (b : Byte) (s : State) : (s.reply b).wire = s.wire := rfl
@[simp] theorem State.reply_now (b : Byte) (s : State) : (s.reply b).now = s.now := rfl
@[simp] theorem State.reply_replies (b : Byte) (s : State) : (s.reply b).replies = s.replies ++ [b] := rfl
@[simp] theorem State.reply_env (b : Byte) (s : State) : (s.reply b).env = s.env := rfl

/-! ### emit -/

@[simp] theorem State.emit_boot (x : Sym) (s : State) : (s.emit x).boot = s.boot := rfl
@[simp] theorem State.emit_ok (x : Sym) (s : State) : (s.emit x).ok = s.ok := rfl
@[simp] theorem State.emit_mode (x : Sym) (s : State) : (s.emit x).mode = s.mode := rfl
@[simp] theorem State.emit_level (x : Sym) (s : State) : (s.emit x).level = s.level := rfl
@[simp] theorem State.emit_rspeed (x : Sym) (s : State) : (s.emit x).rspeed = s.rspeed := rfl
@[simp] theorem State.emit_sspeed (x : Sym) (s : State) : (s.emit x).sspeed = s.sspeed := rfl
@[simp] theorem State.emit_btnEn (x : Sym) (s : State) : (s.emit x).btnEn = s.btnEn := rfl
@[simp] theorem State.emit_btnCur (x : Sym) (s : State) : (s.emit x).btnCur = s.btnCur := rfl
@[simp] theorem State.emit_btnPrev (x : Sym) (s : State) : (s.emit x).btnPrev = s.btnPrev := rfl
@[simp] theorem State.emit_base (x : Sym) (s : State) : (s.emit x).base = s.base := rfl
@[simp] theorem State.emit_delta (x : Sym) (s : State) : (s.emit x).delta = s.delta := rfl
@[simp] theorem State.emit_hue (x : Sym) (s : State) : (s.emit x).hue = s.hue := rfl
@[simp] theorem State.emit_pos (x : Sym) (s : State) : (s.emit x).pos = s.pos := rfl
@[simp] theorem State.emit_dir (x : Sym) (s : State) : (s.emit x).dir = s.dir := rfl
@[simp] theorem State.emit_acc (x : Sym) (s : State) : (s.emit x).acc = s.acc := rfl
@[simp] theorem State.emit_gpioMode (x : Sym) (s : State) : (s.emit x).gpioMode = s.gpioMode := rfl
@[simp] theorem State.emit_gpioOut (x : Sym) (s : State) : (s.emit x).gpioOut = s.gpioOut := rfl
@[simp] theorem State.emit_gpioIn (x : Sym) (s : State) : (s.emit x).gpioIn = s.gpioIn := rfl
@[simp] theorem State.emit_ph (x : Sym) (s : State) : (s.emit x).ph = s.ph := rfl
@[simp] theorem State.emit_inside (x : Sym) (s : State) : (s.emit x).inside = s.inside := rfl
@[simp] theorem State.emit_lastTick (x : Sym) (s : State) : (s.emit x).lastTick = s.lastTick := rfl
@[simp] theorem State.emit_mlat (x : Sym) (s : State) : (s.emit x).mlat = s.mlat := rfl
@[simp] theorem State.emit_busMask (x : Sym) (s : State) : (s.emit x).busMask = s.busMask := rfl
@[simp] theorem State.emit_busEn (x : Sym) (s : State) : (s.emit x).busEn = s.busEn := rfl
@[simp] theorem State.emit_standalone (x : Sym) (s : State) : (s.emit x).standalone = s.standalone := rfl
@[simp] theorem State.emit_buf (x : Sym) (s : State) : (s.emit x).buf = s.buf := rfl
@[simp] theorem State.emit_rf (x : Sym) (s : State) : (s.emit x).rf = s.rf := rfl
@[simp] theorem State.emit_wire (x : Sym) (s : State) : (s.emit x).wire = s.wire ++ [x] := rfl
@[simp] theorem State.emit_now (x : Sym) (s : State) : (s.emit x).now = s.now := rfl
@[simp] theorem State.emit_replies (x : Sym) (s : State) : (s.emit x).replies = s.replies := rfl
@[simp] theorem State.emit_env (x : Sym) (s : State) : (s.emit x).env = s.env := rfl

/-! ### sendFrame -/

@[simp] theorem State.sendFrame_boot (f : Frame) (s : State) : (s.sendFrame f).boot = s.boot := rfl
@[simp] theorem State.sendFrame_ok (f : Frame) (s : State) : (s.sendFrame f).ok = s.ok := rfl
@[simp] theorem State.sendFrame_mode (f : Frame) (s : State) : (s.sendFrame f).mode = s.mode := rfl
@[simp] theorem State.sendFrame_level (f : Frame) (s : State) : (s.sendFrame f).level = s.level := rfl
@[simp] theorem State.sendFrame_rspeed (f : Frame) (s : State) : (s.sendFrame f).rspeed = s.rspeed := rfl
@[simp] theorem State.sendFrame_sspeed (f : Frame) (s : State) : (s.sendFrame f).sspeed = s.sspeed := rfl
@[simp] theorem State.sendFrame_btnEn (f : Frame) (s : State) : (s.sendFrame f).btnEn = s.btnEn := rfl
@[simp] theorem State.sendFrame_btnCur (f : Frame) (s : State) : (s.sendFrame f).btnCur = s.btnCur := rfl
@[simp] theorem State.sendFrame_btnPrev (f : Frame) (s : State) : (s.sendFrame f).btnPrev = s.btnPrev := rfl
@[simp] theorem State.sendFrame_base (f : Frame) (s : State) : (s.sendFrame f).base = s.base := rfl
@[simp] theorem State.sendFrame_delta (f : Frame) (s : State) : (s.sendFrame f).delta = s.delta := rfl
@[simp] theorem State.sendFrame_hue (f : Frame) (s : State) : (s.sendFrame f).hue = s.hue := rfl
@[simp] theorem State.sendFrame_pos (f : Frame) (s : State) : (s.sendFrame f).pos = s.pos := rfl
@[simp] theorem State.sendFrame_dir (f : Frame) (s : State) : (s.sendFrame f).dir = s.dir := rfl
@[simp] theorem State.sendFrame_acc (f : Frame) (s : State) : (s.sendFrame f).acc = s.acc := rfl
@[simp] theorem State.sendFrame_gpioMode (f : Frame) (s : State) : (s.sendFrame f).gpioMode = s.gpioMode := rfl
@[simp] theorem State.sendFrame_gpioOut (f : Frame) (s : State) : (s.sendFrame f).gpioOut = s.gpioOut := rfl
@[simp] theorem State.sendFrame_gpioIn (f : Frame) (s : State) : (s.sendFrame f).gpioIn = s.gpioIn := rfl
@[simp] theorem State.sendFrame_ph (f : Frame) (s : State) : (s.sendFrame f).ph = s.ph := rfl
@[simp] theorem State.sendFrame_inside (f : Frame) (s : State) : (s.sendFrame f).inside = s.inside := rfl
@[simp] theorem State.sendFrame_lastTick (f : Frame) (s : State) : (s.sendFrame f).lastTick = s.lastTick := rfl
@[simp] theorem State.sendFrame_mlat (f : Frame) (s : State) : (s.sendFrame f).mlat = s.mlat := rfl
@[simp] theorem State.sendFrame_busMask (f : Frame) (s : State) : (s.sendFrame f).busMask = s.busMask := rfl
@[simp] theorem State.sendFrame_busEn (f : Frame) (s : State) : (s.sendFrame f).busEn = s.busEn := rfl
@[simp] theorem State.sendFrame_standalone (f : Frame) (s : State) : (s.sendFrame f).standalone = s.standalone := rfl
@[simp] theorem State.sendFrame_buf (f : Frame) (s : State) : (s.sendFrame f).buf = s.buf := rfl
@[simp] theorem State.sendFrame_rf (f : Frame) (s : State) : (s.sendFrame f).rf = s.rf := rfl
@[simp] theorem State.sendFrame_wire (f : Frame) (s : State) : (s.sendFrame f).wire = s.wire ++ frameSymbols f := rfl
@[simp] theorem State.sendFrame_now (f : Frame) (s : State) : (s.sendFrame f).now = s.now := rfl
@[simp] theorem State.sendFrame_replies (f : Frame) (s : State) : (s.sendFrame f).replies = s.replies := rfl
@[simp] theorem State.sendFrame_env (f : Frame) (s : State) : (s.sendFrame f).env = s.env := rfl

/-! ### readNow -/

@[simp] theorem State.readNow_boot (s : State) : s.readNow.boot = s.boot := rfl
@[simp] theorem State.readNow_ok (s : State) : s.readNow.ok = s.ok := rfl
@[simp] theorem State.readNow_mode (s : State) : s.readNow.mode = s.mode := rfl
@[simp] theorem State.readNow_level (s : State) : s.readNow.level = s.level := rfl
@[simp] theorem State.readNow_rspeed (s : State) : s.readNow.rspeed = s.rspeed := rfl
@[simp] theorem State.readNow_sspeed (s : State) : s.readNow.sspeed = s.sspeed := rfl
@[simp] theorem State.readNow_btnEn (s : State) : s.readNow.btnEn = s.btnEn := rfl
@[simp] theorem State.readNow_btnCur (s : State) : s.readNow.btnCur = s.btnCur := rfl
@[simp] theorem State.readNow_btnPrev (s : State) : s.readNow.btnPrev = s.btnPrev := rfl
@[simp] theorem State.readNow_base (s : State) : s.readNow.base = s.base := rfl
@[simp] theorem State.readNow_delta (s : State) : s.readNow.delta = s.delta := rfl
@[simp] theorem State.readNow_hue (s : State) : s.readNow.hue = s.hue := rfl
@[simp] theorem State.readNow_pos (s : State) : s.readNow.pos = s.pos := rfl
@[simp] theorem State.readNow_dir (s : State) : s.readNow.dir = s.dir := rfl
@[simp] theorem State.readNow_acc (s : State) : s.readNow.acc = s.acc := rfl
@[simp] theorem State.readNow_gpioMode (s : State) : s.readNow.gpioMode = s.gpioMode := rfl
@[simp] theorem State.readNow_gpioOut (s : State) : s.readNow.gpioOut = s.gpioOut := rfl
@[simp] theorem State.readNow_gpioIn (s : State) : s.readNow.gpioIn = s.gpioIn := rfl
@[simp] theorem State.readNow_ph (s : State) : s.readNow.ph = s.ph := rfl
@[simp] theorem State.readNow_inside (s : State) : s.readNow.inside = s.inside := rfl
@[simp] theorem State.readNow_lastTick (s : State) : s.readNow.lastTick = s.lastTick := rfl
@[simp] theorem State.readNow_mlat (s : State) : s.readNow.mlat = s.mlat := rfl
@[simp] theorem State.readNow_busMask (s : State) : s.readNow.busMask = s.busMask := rfl
@[simp] theorem State.readNow_busEn (s : State) : s.readNow.busEn = s.busEn := rfl
@[simp] theorem State.readNow_standalone (s : State) : s.readNow.standalone = s.standalone := rfl
@[simp] theorem State.readNow_buf (s : State) : s.readNow.buf = s.buf := rfl
@[simp] theorem State.readNow_rf (s : State) : s.readNow.rf = s.rf := rfl
@[simp] theorem State.readNow_wire (s : State) : s.readNow.wire = s.wire := rfl
@[simp] theorem State.readNow_now (s : State) : s.readNow.now = s.now + s.env.takeElapsed.1 := rfl
@[simp] theorem State.readNow_replies (s : State) : s.readNow.replies = s.replies := rfl
@[simp] theorem State.readNow_env (s : State) : s.readNow.env = s.env.takeElapsed.2 := rfl

/-! ### wait -/

@[simp] theorem State.wait_boot (d : Ticks) (s : State) : (s.wait d).boot = s.boot := rfl
@[simp] theorem State.wait_ok (d : Ticks) (s : State) : (s.wait d).ok = s.ok := rfl
@[simp] theorem State.wait_mode (d : Ticks) (s : State) : (s.wait d).mode = s.mode := rfl
@[simp] theorem State.wait_level (d : Ticks) (s : State) : (s.wait d).level = s.level := rfl
@[simp] theorem State.wait_rspeed (d : Ticks) (s : State) : (s.wait d).rspeed = s.rspeed := rfl
@[simp] theorem State.wait_sspeed (d : Ticks) (s : State) : (s.wait d).sspeed = s.sspeed := rfl
@[simp] theorem State.wait_btnEn (d : Ticks) (s : State) : (s.wait d).btnEn = s.btnEn := rfl
@[simp] theorem State.wait_btnCur (d : Ticks) (s : State) : (s.wait d).btnCur = s.btnCur := rfl
@[simp] theorem State.wait_btnPrev (d : Ticks) (s : State) : (s.wait d).btnPrev = s.btnPrev := rfl
@[simp] theorem State.wait_base (d : Ticks) (s : State) : (s.wait d).base = s.base := rfl
@[simp] theorem State.wait_delta (d : Ticks) (s : State) : (s.wait d).delta = s.delta := rfl
@[simp] theorem State.wait_hue (d : Ticks) (s : State) : (s.wait d).hue = s.hue := rfl
@[simp] theorem State.wait_pos (d : Ticks) (s : State) : (s.wait d).pos = s.pos := rfl
@[simp] theorem State.wait_dir (d : Ticks) (s : State) : (s.wait d).dir = s.dir := rfl
@[simp] theorem State.wait_acc (d : Ticks) (s : State) : (s.wait d).acc = s.acc := rfl
@[simp] theorem State.wait_gpioMode (d : Ticks) (s : State) : (s.wait d).gpioMode = s.gpioMode := rfl
@[simp] theorem State.wait_gpioOut (d : Ticks) (s : State) : (s.wait d).gpioOut = s.gpioOut := rfl
@[simp] theorem State.wait_gpioIn (d : Ticks) (s : State) : (s.wait d).gpioIn = s.gpioIn := rfl
@[simp] theorem State.wait_ph (d : Ticks) (s : State) : (s.wait d).ph = s.ph := rfl
@[simp] theorem State.wait_inside (d : Ticks) (s : State) : (s.wait d).inside = s.inside := rfl
@[simp] theorem State.wait_lastTick (d : Ticks) (s : State) : (s.wait d).lastTick = s.lastTick := rfl
@[simp] theorem State.wait_mlat (d : Ticks) (s : State) : (s.wait d).mlat = s.mlat := rfl
@[simp] theorem State.wait_busMask (d : Ticks) (s : State) : (s.wait d).busMask = s.busMask := rfl
@[simp] theorem State.wait_busEn (d : Ticks) (s : State) : (s.wait d).busEn = s.busEn := rfl
@[simp] theorem State.wait_standalone (d : Ticks) (s : State) : (s.wait d).standalone = s.standalone := rfl
@[simp] theorem State.wait_buf (d : Ticks) (s : State) : (s.wait d).buf = s.buf := rfl
@[simp] theorem State.wait_rf (d : Ticks) (s : State) : (s.wait d).rf = s.rf := rfl
@[simp] theorem State.wait_wire (d : Ticks) (s : State) : (s.wait d).wire = s.wire := rfl
@[simp] theorem State.wait_now (d : Ticks) (s : State) : (s.wait d).now = s.now + d := rfl
@[simp] theorem State.wait_replies (d : Ticks) (s : State) : (s.wait d).replies = s.replies := rfl
@[simp] theorem State.wait_env (d : Ticks) (s : State) : (s.wait d).env = s.env := rfl

/-! ### scanned -/

@[simp] theorem State.scanned_boot (c : Nat) (p : BitVec 3) (d : Dir) (a : Byte) (s : State) : (s.scanned c p d a).boot = s.boot := rfl
@[simp] theorem State.scanned_ok (c : Nat) (p : BitVec 3) (d : Dir) (a : Byte) (s : State) : (s.scanned c p d a).ok = s.ok := rfl
@[simp] theorem State.scanned_mode (c : Nat) (p : BitVec 3) (d : Dir) (a : Byte) (s : State) : (s.scanned c p d a).mode = s.mode := rfl
@[simp] theorem State.scanned_level (c : Nat) (p : BitVec 3) (d : Dir) (a : Byte) (s : State) : (s.scanned c p d a).level = s.level := rfl
@[simp] theorem State.scanned_rspeed (c : Nat) (p : BitVec 3) (d : Dir) (a : Byte) (s : State) : (s.scanned c p d a).rspeed = s.rspeed := rfl
@[simp] theorem State.scanned_sspeed (c : Nat) (p : BitVec 3) (d : Dir) (a : Byte) (s : State) : (s.scanned c p d a).sspeed = s.sspeed := rfl
@[simp] theorem State.scanned_btnEn (c : Nat) (p : BitVec 3) (d : Dir) (a : Byte) (s : State) : (s.scanned c p d a).btnEn = s.btnEn := rfl
@[simp] theorem State.scanned_btnCur (c : Nat) (p : BitVec 3) (d : Dir) (a : Byte) (s : State) : (s.scanned c p d a).btnCur = s.btnCur := rfl
@[simp] theorem State.scanned_btnPrev (c : Nat) (p : BitVec 3) (d : Dir) (a : Byte) (s : State) : (s.scanned c p d a).btnPrev = s.btnPrev := rfl
@[simp] theorem State.scanned_base (c : Nat) (p : BitVec 3) (d : Dir) (a : Byte) (s : State) : (s.scanned c p d a).base = s.base := rfl
@[simp] theorem State.scanned_delta (c : Nat) (p : BitVec 3) (d : Dir) (a : Byte) (s : State) : (s.scanned c p d a).delta = s.delta := rfl
@[simp] theorem State.scanned_hue (c : Nat) (p : BitVec 3) (d : Dir) (a : Byte) (s : State) : (s.scanned c p d a).hue = s.hue := rfl
@[simp] theorem State.scanned_pos (c : Nat) (p : BitVec 3) (d : Dir) (a : Byte) (s : State) : (s.scanned c p d a).pos = p := rfl
@[simp] theorem State.scanned_dir (c : Nat) (p : BitVec 3) (d : Dir) (a : Byte) (s : State) : (s.scanned c p d a).dir = d := rfl
@[simp] theorem State.scanned_acc (c : Nat) (p : BitVec 3) (d : Dir) (a : Byte) (s : State) : (s.scanned c p d a).acc = a := rfl
@[simp] theorem State.scanned_gpioMode (c : Nat) (p : BitVec 3) (d : Dir) (a : Byte) (s : State) : (s.scanned c p d a).gpioMode = s.gpioMode := rfl
@[simp] theorem State.scanned_gpioOut (c : Nat) (p : BitVec 3) (d : Dir) (a : Byte) (s : State) : (s.scanned c p d a).gpioOut = s.gpioOut := rfl
@[simp] theorem State.scanned_gpioIn (c : Nat) (p : BitVec 3) (d : Dir) (a : Byte) (s : State) : (s.scanned c p d a).gpioIn = s.gpioIn := rfl
@[simp] theorem State.scanned_ph (c : Nat) (p : BitVec 3) (d : Dir) (a : Byte) (s : State) : (s.scanned c p d a).ph = s.ph := rfl
@[simp] theorem State.scanned_inside (c : Nat) (p : BitVec 3) (d : Dir) (a : Byte) (s : State) : (s.scanned c p d a).inside = s.inside := rfl
@[simp] theorem State.scanned_lastTick (c : Nat) (p : BitVec 3) (d : Dir) (a : Byte) (s : State) : (s.scanned c p d a).lastTick = s.lastTick := rfl
@[simp] theorem State.scanned_mlat (c : Nat) (p : BitVec 3) (d : Dir) (a : Byte) (s : State) : (s.scanned c p d a).mlat = s.mlat := rfl
@[simp] theorem State.scanned_busMask (c : Nat) (p : BitVec 3) (d : Dir) (a : Byte) (s : State) : (s.scanned c p d a).busMask = s.busMask := rfl
@[simp] theorem State.scanned_busEn (c : Nat) (p : BitVec 3) (d : Dir) (a : Byte) (s : State) : (s.scanned c p d a).busEn = s.busEn := rfl
@[simp] theorem State.scanned_standalone (c : Nat) (p : BitVec 3) (d : Dir) (a : Byte) (s : State) : (s.scanned c p d a).standalone = s.standalone := rfl
@[simp] theorem State.scanned_buf (c : Nat) (p : BitVec 3) (d : Dir) (a : Byte) (s : State) : (s.scanned c p d a).buf = scanFrame c p s.buf := rfl
@[simp] theorem State.scanned_rf (c : Nat) (p : BitVec 3) (d : Dir) (a : Byte) (s : State) : (s.scanned c p d a).rf = s.rf := rfl
@[simp] theorem State.scanned_wire (c : Nat) (p : BitVec 3) (d : Dir) (a : Byte) (s : State) : (s.scanned c p d a).wire = s.wire := rfl
@[simp] theorem State.scanned_now (c : Nat) (p : BitVec 3) (d : Dir) (a : Byte) (s : State) : (s.scanned c p d a).now = s.now := rfl
@[simp] theorem State.scanned_replies (c : Nat) (p : BitVec 3) (d : Dir) (a : Byte) (s : State) : (s.scanned c p d a).replies = s.replies := rfl
@[simp] theorem State.scanned_env (c : Nat) (p : BitVec 3) (d : Dir) (a : Byte) (s : State) : (s.scanned c p d a).env = s.env := rfl

end Sys2Proof.Machine
end

