-- ==== Sys2Proof/Laws/Ops.lean ====
section
/-! SUPPORT. One lemma per shared operation that says what it does: the environment's answers, the sequencing of
two operations, the host's writes, and the scanner. -/

namespace Sys2Proof.Machine

/-! ### The environment's answers leave the other scripts alone -/

@[simp] theorem Env.takeTouch_frame (c n : Nat) (e : Env) :
    (e.takeTouch c n).2 = { e with touch := (e.takeTouch c n).2.touch, draws := (e.takeTouch c n).2.draws } := by
  unfold Env.takeTouch; split <;> rfl

theorem Env.takeFive_frame (n : Nat) (e : Env) :
    (e.takeFive n).2 = { e with touch := (e.takeFive n).2.touch, draws := (e.takeFive n).2.draws } := by
  simp only [Env.takeFive]
  rw [Env.takeTouch_frame 4, Env.takeTouch_frame 3, Env.takeTouch_frame 2, Env.takeTouch_frame 1,
    Env.takeTouch_frame 0]

theorem Env.takeButton_frame (e : Env) :
    e.takeButton.2 = { e with button := e.takeButton.2.button, draws := e.takeButton.2.draws } := by
  unfold Env.takeButton; split <;> rfl

theorem Env.takeGpio_frame (e : Env) :
    e.takeGpio.2 = { e with gpio := e.takeGpio.2.gpio, draws := e.takeGpio.2.draws } := by
  unfold Env.takeGpio; split <;> rfl

theorem Env.takeElapsed_frame (e : Env) :
    e.takeElapsed.2 = { e with elapsed := e.takeElapsed.2.elapsed, draws := e.takeElapsed.2.draws } := by
  unfold Env.takeElapsed; split <;> rfl

theorem Env.takeTurn_frame (e : Env) :
    e.takeTurn.2 = { e with turns := e.takeTurn.2.turns, draws := e.takeTurn.2.draws } := by
  unfold Env.takeTurn; split <;> rfl

theorem Env.takeTurn_cons (e : Env) (a : Agent) (rest : List Agent) (h : e.turns = a :: rest) :
    e.takeTurn = (a, { e with turns := rest }) := by
  simp [Env.takeTurn, h]

/-! ### Sequencing -/

/-- What a sequence of two operations answers. -/
theorem andThen_eq_next {a : Answer} {k : State → State} {t : State} :
    andThen a k = .next t ↔ ∃ s, a = .next s ∧ t = k s := by
  cases a <;> simp [andThen, eq_comm]

@[simp] theorem andThen_next (s : State) (k : State → State) : andThen (.next s) k = .next (k s) := rfl

/-! ### The host's writes and reads, at the spec's defaults (log 11, log 12) -/

@[simp] theorem State.rederiveRest_eq (s : State) : s.rederiveRest = s := rfl

@[simp] theorem State.hostWrite_eq (i : Fin 36) (v : Byte) (own : State → State) (s : State) :
    s.hostWrite i v own = own (s.setRf i v) := rfl

@[simp] theorem State.hostWriteReadOnly_eq (i : Fin 36) (v : Byte) (s : State) :
    s.hostWriteReadOnly i v = s := rfl

@[simp] theorem State.hostWriteLed_eq (i : Fin 36) (v : Byte) (s : State) :
    s.hostWriteLed i v = if s.mode = 0 then s.setRf i v else s := rfl

/-! ### The scanner -/

/-- A legal head has a move, of one place, that leaves it legal, and turns exactly at the ends (R127). -/
theorem movedHead_legal {p : BitVec 3} {d : Dir} (h4 : p.toNat ≤ 4) (hb : p = 4 → d = .backward)
    (hf : p = 0 → d = .forward) :
    ∃ q e, movedHead p d = some (q, e) ∧ q.toNat ≤ 4 ∧ (q = 4 → e = .backward) ∧ (q = 0 → e = .forward) ∧
      (d = .forward → q.toNat = p.toNat + 1 ∧ (e = .backward ↔ q = 4)) ∧
      (d = .backward → q.toNat + 1 = p.toNat ∧ (e = .forward ↔ q = 0)) := by
  have hp : p = 0 ∨ p = 1 ∨ p = 2 ∨ p = 3 ∨ p = 4 := by
    clear hb hf; revert p; decide
  cases d
  · rcases hp with rfl | rfl | rfl | rfl | rfl
    case inr.inr.inr.inr => exact absurd (hb rfl) (by decide)
    all_goals exact ⟨_, _, rfl, by decide, by decide, by decide, by decide, by decide⟩
  · rcases hp with rfl | rfl | rfl | rfl | rfl
    case inl => exact absurd (hf rfl) (by decide)
    all_goals exact ⟨_, _, rfl, by decide, by decide, by decide, by decide, by decide⟩

/-- The state after a scanner step from a legal head. -/
def State.scanStep (c : Nat) (s : State) : State :=
  if headMoves s.acc s.sspeed then
    s.scanned c ((movedHead s.pos s.dir).getD (s.pos, s.dir)).1 ((movedHead s.pos s.dir).getD (s.pos, s.dir)).2 0
  else s.scanned c s.pos s.dir (s.acc + 1)

/-- A scanner step from a legal head completes (R126). -/
theorem scan_legal (c : Nat) (s : State) (h : s.HeadLegal) : scan c s = .next (s.scanStep c) := by
  obtain ⟨q, e, he, -⟩ := movedHead_legal h.1 h.2.1 h.2.2
  simp [scan, State.scanStep, he]

/-- Everything a completing scanner step does. -/
theorem scan_cases {c : Nat} {s t : State} (h : scan c s = .next t) :
    ∃ p d a, t = s.scanned c p d a := by
  unfold scan at h
  split at h
  · split at h <;> cases h <;> exact ⟨_, _, _, rfl⟩
  · split at h <;> cases h; exact ⟨_, _, _, rfl⟩

/-- A scanner step keeps a legal head legal (R135). -/
theorem scanStep_legal (c : Nat) (s : State) (h : s.HeadLegal) : (s.scanStep c).HeadLegal := by
  obtain ⟨q, e, he, h4, hb, hf, -⟩ := movedHead_legal h.1 h.2.1 h.2.2
  unfold State.scanStep
  split
  · simpa [State.HeadLegal, he] using ⟨h4, hb, hf⟩
  · exact h

/-- A scanner step below the threshold moves nothing (R126). -/
theorem scanStep_still {c : Nat} {s : State} (h : (s.acc.toNat + 1) % 256 ≤ 255 - s.sspeed.toNat) :
    s.scanStep c = s.scanned c s.pos s.dir (s.acc + 1) := by
  unfold State.scanStep
  rw [if_neg]
  rw [headMoves_iff]
  omega

/-- A scanner step above the threshold clears the accumulator and moves the head (R126, R127). -/
theorem scanStep_move {c : Nat} {s : State} (hl : s.HeadLegal)
    (h : 255 - s.sspeed.toNat < (s.acc.toNat + 1) % 256) :
    ∃ q e, movedHead s.pos s.dir = some (q, e) ∧ s.scanStep c = s.scanned c q e 0 ∧
      (s.dir = .forward → q.toNat = s.pos.toNat + 1 ∧ (e = .backward ↔ q = 4)) ∧
      (s.dir = .backward → q.toNat + 1 = s.pos.toNat ∧ (e = .forward ↔ q = 0)) := by
  obtain ⟨q, e, he, h4, hb, hf, h1, h2⟩ := movedHead_legal hl.1 hl.2.1 hl.2.2
  refine ⟨q, e, he, ?_, h1, h2⟩
  unfold State.scanStep
  rw [if_pos ((headMoves_iff _ _).2 h), he]
  rfl

/-- A scanner step from a legal head changes `BUF`, `POS`, `DIR` and `ACC` at most. -/
theorem scanStep_eq_scanned (c : Nat) (s : State) : ∃ p d a, s.scanStep c = s.scanned c p d a := by
  unfold State.scanStep
  split <;> exact ⟨_, _, _, rfl⟩

/-- The scanner modes run the scanner step of their channel (R130 to R132). -/
theorem scanModes_exec {p : Instr × Nat} (hp : p ∈ scanModes) (s : State) : exec p.1 s = scan p.2 s := by
  simp only [scanModes, List.mem_cons, List.not_mem_nil, or_false] at hp
  rcases hp with h | h | h <;> subst h <;> rfl

end Sys2Proof.Machine
end

