-- ==== Sys2Proof/Laws/Step.lean ====
section
/-! SUPPORT. What a step is, by cases of the fetch, and what runs it. -/

namespace Sys2Proof.Machine

/-- During boot a step is the boot step. -/
theorem step_boot {s : State} {b : BootStep} (h : s.boot = some b) : step s = exec b.instr s := by
  simp [step, fetch, h]

/-- The state a phase or a bus operation runs in. -/
theorem State.turned_eq (s : State) : s.turned = { s with env := s.env.takeTurn.2 } := rfl

/-- After boot, when agent TICK moves, a step is the phase `PH` names. -/
theorem step_tick {s : State} (h : s.boot = none) (ht : s.env.takeTurn.1 = .tick ∨ s.busReady = false) :
    step s = exec (decodePhase s.ph) s.turned := by
  have key : fetch s = s.turned.fetchPhase := by
    unfold fetch
    rw [h]
    rcases ht with ht | ht
    · simp [ht]
    · cases hx : s.env.takeTurn.1 <;> simp [ht]
  have hp : s.turned.ph = s.ph := rfl
  simp [step, key, State.fetchPhase, hp]

/-- After boot, when agent BUS moves, a step is the host's next bus operation. -/
theorem step_bus {s : State} (h : s.boot = none) (ht : s.env.takeTurn.1 = .bus) (hr : s.busReady = true) :
    step s = exec (decodeBusop s.env.takeTurn.2.takeHostOp.1)
      { s with env := s.env.takeTurn.2.takeHostOp.2 } := by
  have key : fetch s = s.turned.fetchBusOp := by
    unfold fetch
    rw [h]
    simp [ht, hr]
  have hw : (s.env.takeTurn.2.takeHostOp.1).toNat < 2 ^ Format.busop.width := BitVec.isLt _
  simp only [step, key, State.fetchBusOp, State.deliverBusEvent, State.turned, decode, hw, if_true]

/-- Every step is one of the three. -/
theorem step_cases (s : State) :
    (∃ b, s.boot = some b ∧ step s = exec b.instr s) ∨
    (s.boot = none ∧ (s.env.takeTurn.1 = .tick ∨ s.busReady = false) ∧
      step s = exec (decodePhase s.ph) s.turned) ∨
    (s.boot = none ∧ s.env.takeTurn.1 = .bus ∧ s.busReady = true ∧
      step s = exec (decodeBusop s.env.takeTurn.2.takeHostOp.1)
        { s with env := s.env.takeTurn.2.takeHostOp.2 }) := by
  rcases Option.eq_none_or_eq_some s.boot with hb | ⟨b, hb⟩
  · by_cases hr : s.busReady = true
    · by_cases ht : s.env.takeTurn.1 = .bus
      · exact .inr (.inr ⟨hb, ht, hr, step_bus hb ht hr⟩)
      · have ht' : s.env.takeTurn.1 = .tick := by cases hx : s.env.takeTurn.1 <;> simp_all
        exact .inr (.inl ⟨hb, .inl ht', step_tick hb (.inl ht')⟩)
    · have hr' : s.busReady = false := by simpa using hr
      exact .inr (.inl ⟨hb, .inr hr', step_tick hb (.inr hr')⟩)
  · exact .inl ⟨b, hb, step_boot hb⟩

/-- A step of the sequencer when the script of turns says so. -/
theorem step_tick_cons {s : State} {rest : List Agent} (hb : s.boot = none) (ht : s.env.turns = .tick :: rest) :
    step s = exec (decodePhase s.ph) { s with env := { s.env with turns := rest } } := by
  have h := Env.takeTurn_cons s.env _ _ ht
  rw [step_tick hb (.inl (by rw [h])), State.turned_eq, h]

/-- A run whose first step completes. -/
theorem stepTimes_succ {n : Nat} {s t : State} (h : step s = .next t) :
    stepTimes (n + 1) s = stepTimes n t := by
  simp [stepTimes, h]

/-- A completing run of one step more. -/
theorem stepTimes_succ_next {n : Nat} {s u : State} (h : stepTimes (n + 1) s = .next u) :
    ∃ t, step s = .next t ∧ stepTimes n t = .next u := by
  simp only [stepTimes] at h
  cases hs : step s <;> simp_all

/-- A property that holds of a state and is kept by every step holds after every completing run. -/
theorem stepTimes_keeps {P : State → Prop} (keep : ∀ s t, P s → step s = .next t → P t) :
    ∀ (n : Nat) (s t : State), P s → stepTimes n s = .next t → P t
  | 0, _, _, hp, h => by cases h; exact hp
  | n + 1, s, t, hp, h => by
    obtain ⟨u, hu, hr⟩ := stepTimes_succ_next h
    exact stepTimes_keeps keep n u t (keep s u hp hu) hr

theorem hostRun_next (M : Host.Core) {n : Nat} {s t : M.State} (h : M.step s = .next t) :
    M.run (n + 1) s = M.run n t := by simp [Host.Core.run, h]

theorem hostRun_fault (M : Host.Core) {n : Nat} {s : M.State} {f : M.Fault} (h : M.step s = .fault f) :
    M.run (n + 1) s = .fault f := by simp [Host.Core.run, h]

theorem hostRun_refused (M : Host.Core) {n : Nat} {s : M.State} {r : M.Refusal} (h : M.step s = .refused r) :
    M.run (n + 1) s = .refused r := by simp [Host.Core.run, h]

/-- The run of the host's interface is this run. -/
theorem run_core_eq (n : Nat) (s : State) : Host.Core.run Sys2Proof.core n s = stepTimes n s := by
  induction n generalizing s with
  | zero => rfl
  | succ n ih =>
    cases hs : step s with
    | next t => exact (hostRun_next Sys2Proof.core hs).trans ((ih t).trans (stepTimes_succ hs).symm)
    | fault f =>
      have h : stepTimes (n + 1) s = .fault f := by simp [stepTimes, hs]
      exact (hostRun_fault Sys2Proof.core hs).trans h.symm
    | refused r =>
      have h : stepTimes (n + 1) s = .refused r := by simp [stepTimes, hs]
      exact (hostRun_refused Sys2Proof.core hs).trans h.symm

/-- A sequence of operations whose first completes. -/
theorem execAll_cons {i : Instr} {is : List Instr} {s t : State} (h : exec i s = .next t) :
    execAll (i :: is) s = execAll is t := by
  simp [execAll, h]

theorem execAll_append {is js : List Instr} {s t : State} (h : execAll is s = .next t) :
    execAll (is ++ js) s = execAll js t := by
  induction is generalizing s with
  | nil => cases h; rfl
  | cons i is ih =>
    simp only [execAll, List.cons_append] at h ⊢
    cases hi : exec i s <;> simp_all

/-- One operation more, at the front. -/
theorem execTimes_succ {n : Nat} {i : Instr} {s t : State} (h : exec i s = .next t) :
    execTimes (n + 1) i s = execTimes n i t := by
  simp only [execTimes, List.replicate_succ]
  exact execAll_cons h

/-- One operation more, at the end. -/
theorem execTimes_snoc {n : Nat} {i : Instr} {s t : State} (h : execTimes n i s = .next t) :
    execTimes (n + 1) i s = exec i t := by
  simp only [execTimes, List.replicate_succ'] at *
  rw [execAll_append h]
  simp only [execAll]
  cases exec i t <;> rfl

end Sys2Proof.Machine
end

