-- ==== Sys2Proof/Laws/Host.lean ====
section
/-! SUPPORT. Everything a bus operation can do. -/

namespace Sys2Proof.Machine

/-- What a bus operation leaves: an ignored write or an identity write; a read; a stored byte with its
re-derivation; a colour byte in mode 0. -/
inductive HostEffect (s : State) : State → Prop where
  | nothing : HostEffect s s
  | read (r : List Byte) (e : Env) (he : e = s.env ∨ e = s.env.takeByte.2) :
      HostEffect s { s with replies := r, env := e }
  | gpioMode (v : Byte) : HostEffect s { s with rf := s.rf.set 2 v, gpioMode := v.setWidth 4 }
  | gpioOut (v : Byte) : HostEffect s { s with rf := s.rf.set 4 v, gpioOut := v.setWidth 4 }
  | mode (v : Byte) : HostEffect s { s with rf := s.rf.set 5 v, mode := v }
  | level (v : Byte) : HostEffect s { s with rf := s.rf.set 16 v, level := v }
  | rspeed (v : Byte) : HostEffect s { s with rf := s.rf.set 17 v, rspeed := v }
  | sspeed (v : Byte) : HostEffect s { s with rf := s.rf.set 18 v, sspeed := v }
  | btnEn (v : Byte) : HostEffect s { s with rf := s.rf.set 20 v, btnEn := enabledBy v }
  | led (k : Fin 36) (v : Byte) (hk : 21 ≤ k.val) (hm : s.mode = 0) : HostEffect s { s with rf := s.rf.set k v }

/-- What a bus operation leaves alone. -/
theorem HostEffect.frame {s t : State} (h : HostEffect s t) :
    t = { s with
      rf := t.rf, mode := t.mode, level := t.level, rspeed := t.rspeed, sspeed := t.sspeed, btnEn := t.btnEn,
      gpioMode := t.gpioMode, gpioOut := t.gpioOut, replies := t.replies, env := t.env } := by
  cases h <;> rfl

/-- A write of a colour byte (R93). -/
theorem hostWriteLed_effect (k : Fin 36) (v : Byte) (s : State) (hk : 21 ≤ k.val) :
    HostEffect s (s.hostWriteLed k v) := by
  rw [State.hostWriteLed_eq]
  split
  · next h => exact .led k v hk h
  · exact .nothing

/-- Every bus operation completes with one of these effects (R81, R94, R95, R108, R109). -/
theorem exec_busop {i : Instr} (h : i.format = .busop) (s : State) : ∃ t, exec i s = .next t ∧ HostEffect s t := by
  cases i <;> simp only [Instr.format, reduceCtorEq] at h
  case wrGpiomode v => exact ⟨_, rfl, .gpioMode v⟩
  case wrGpioout v => exact ⟨_, rfl, .gpioOut v⟩
  case wrMode v => exact ⟨_, rfl, .mode v⟩
  case wrLevel v => exact ⟨_, rfl, .level v⟩
  case wrRspeed v => exact ⟨_, rfl, .rspeed v⟩
  case wrSspeed v => exact ⟨_, rfl, .sspeed v⟩
  case wrBtnen v => exact ⟨_, rfl, .btnEn v⟩
  case idRd off =>
    refine ⟨_, rfl, ?_⟩
    split
    · exact .read _ _ (.inl rfl)
    · exact .read _ _ (.inr rfl)
  case wrLed0G v | wrLed0R v | wrLed0B v | wrLed1G v | wrLed1R v | wrLed1B v | wrLed2G v | wrLed2R v | wrLed2B v |
      wrLed3G v | wrLed3R v | wrLed3B v | wrLed4G v | wrLed4R v | wrLed4B v =>
    exact ⟨_, rfl, hostWriteLed_effect _ v s (by decide)⟩
  case rdUnmapped36_39 | rdUnmapped40_47 | rdUnmapped48_63 | rdUnmapped64_127 | rdUnmapped128_255 =>
    exact ⟨_, rfl, .read _ _ (.inr rfl)⟩
  all_goals first
    | exact ⟨_, rfl, .nothing⟩
    | exact ⟨_, rfl, .read _ _ (.inl rfl)⟩

theorem exec_busop_effect {i : Instr} {s t : State} (hf : i.format = .busop) (h : exec i s = .next t) :
    HostEffect s t := by
  obtain ⟨u, hu, he⟩ := exec_busop hf s
  rw [h] at hu
  cases hu
  exact he

/-- The words a bus operation is fetched from are bus operations. -/
theorem decodeBusop_format (w : BusWord) : (decodeBusop w).format = .busop := by
  unfold decodeBusop
  split
  · exact (decodeWrite_spec _ _).2.1
  · exact (decodeRead_spec _).2.1
  · rfl
  · rfl

/-! ### The fifteen colour writes (R75, R93) -/

theorem execAll_ledWrite {i : Instr} (is : List Instr) (k : Fin 36) {v : Byte} {s : State} {rf rf' : RegFile}
    (hm : s.mode = 0) (hi : exec i { s with rf := rf } = .next (State.hostWriteLed k v { s with rf := rf }))
    (h : rf' = rf.set k v) :
    execAll (i :: is) { s with rf := rf } = execAll is { s with rf := rf' } := by
  rw [State.hostWriteLed_eq, if_pos hm] at hi
  rw [h]
  exact execAll_cons hi

theorem ledSets (rf : RegFile) (f : Frame) :
    ∃ r0 r1 r2 r3 r4 r5 r6 r7 r8 r9 r10 r11 r12 r13 r14 : RegFile,
      r0 = rf.set 21 f[0] ∧ r1 = r0.set 22 f[1] ∧ r2 = r1.set 23 f[2] ∧ r3 = r2.set 24 f[3] ∧
      r4 = r3.set 25 f[4] ∧ r5 = r4.set 26 f[5] ∧ r6 = r5.set 27 f[6] ∧ r7 = r6.set 28 f[7] ∧
      r8 = r7.set 29 f[8] ∧ r9 = r8.set 30 f[9] ∧ r10 = r9.set 31 f[10] ∧ r11 = r10.set 32 f[11] ∧
      r12 = r11.set 33 f[12] ∧ r13 = r12.set 34 f[13] ∧ r14 = r13.set 35 f[14] ∧
      ∀ k : Fin 15, r14[21 + k.val]'(by show _ < 36; omega) = f[k] := by
  refine ⟨_, _, _, _, _, _, _, _, _, _, _, _, _, _, _, rfl, rfl, rfl, rfl, rfl, rfl, rfl, rfl, rfl, rfl, rfl, rfl,
    rfl, rfl, rfl, ?_⟩
  intro ⟨k, hk⟩
  simp only [Vector.getElem_set]
  interval_cases k <;> rfl

/-- Fifteen writes in mode 0 put a frame into the colour bytes. -/
theorem execAll_frameWrites (f : Frame) {s : State} (hm : s.mode = 0) (js : List Instr) :
    ∃ r : RegFile, execAll (frameWrites f ++ js) s = execAll js { s with rf := r } ∧
      ∀ k : Fin 15, r[21 + k.val]'(by show _ < 36; omega) = f[k] := by
  obtain ⟨r0, r1, r2, r3, r4, r5, r6, r7, r8, r9, r10, r11, r12, r13, r14, h0, h1, h2, h3, h4, h5, h6, h7, h8, h9,
    h10, h11, h12, h13, h14, h⟩ := ledSets s.rf f
  refine ⟨r14, ?_, h⟩
  show execAll _ { s with rf := s.rf } = _
  simp only [frameWrites, List.cons_append, List.nil_append]
  rw [execAll_ledWrite _ 21 hm rfl h0, execAll_ledWrite _ 22 hm rfl h1, execAll_ledWrite _ 23 hm rfl h2,
    execAll_ledWrite _ 24 hm rfl h3, execAll_ledWrite _ 25 hm rfl h4, execAll_ledWrite _ 26 hm rfl h5,
    execAll_ledWrite _ 27 hm rfl h6, execAll_ledWrite _ 28 hm rfl h7, execAll_ledWrite _ 29 hm rfl h8,
    execAll_ledWrite _ 30 hm rfl h9, execAll_ledWrite _ 31 hm rfl h10, execAll_ledWrite _ 32 hm rfl h11,
    execAll_ledWrite _ 33 hm rfl h12, execAll_ledWrite _ 34 hm rfl h13, execAll_ledWrite _ 35 hm rfl h14]

end Sys2Proof.Machine
end

