-- ==== Sys2Proof/Laws/PerInstr.lean ====
section
/-! SUPPORT. EncodeFits, instruction by instruction: the word of an instruction has no bit above its format. -/

namespace Sys2Proof.Laws.EncodeFits

/-- The word of `i` fits the width of its format (R67, R64, R68, R66). -/
def Statement (i : Instr) : Prop := (encode i).toNat < 2 ^ i.format.width

/-- A word that is a byte fits eight bits. -/
theorem byte_fits (m : Byte) : (m.setWidth 18 : BusWord).toNat < 2 ^ Format.mode.width := by
  have h := m.isLt
  simp only [Format.width, BitVec.toNat_setWidth]
  omega

theorem wrFwlo (v : Byte) : Statement (.wrFwlo v) := BitVec.isLt _
theorem wrFwhi (v : Byte) : Statement (.wrFwhi v) := BitVec.isLt _
theorem wrGpiomode (v : Byte) : Statement (.wrGpiomode v) := BitVec.isLt _
theorem wrGpioin (v : Byte) : Statement (.wrGpioin v) := BitVec.isLt _
theorem wrGpioout (v : Byte) : Statement (.wrGpioout v) := BitVec.isLt _
theorem wrMode (v : Byte) : Statement (.wrMode v) := BitVec.isLt _
theorem wrTdelta0L (v : Byte) : Statement (.wrTdelta0L v) := BitVec.isLt _
theorem wrTdelta0H (v : Byte) : Statement (.wrTdelta0H v) := BitVec.isLt _
theorem wrTdelta1L (v : Byte) : Statement (.wrTdelta1L v) := BitVec.isLt _
theorem wrTdelta1H (v : Byte) : Statement (.wrTdelta1H v) := BitVec.isLt _
theorem wrTdelta2L (v : Byte) : Statement (.wrTdelta2L v) := BitVec.isLt _
theorem wrTdelta2H (v : Byte) : Statement (.wrTdelta2H v) := BitVec.isLt _
theorem wrTdelta3L (v : Byte) : Statement (.wrTdelta3L v) := BitVec.isLt _
theorem wrTdelta3H (v : Byte) : Statement (.wrTdelta3H v) := BitVec.isLt _
theorem wrTdelta4L (v : Byte) : Statement (.wrTdelta4L v) := BitVec.isLt _
theorem wrTdelta4H (v : Byte) : Statement (.wrTdelta4H v) := BitVec.isLt _
theorem wrLevel (v : Byte) : Statement (.wrLevel v) := BitVec.isLt _
theorem wrRspeed (v : Byte) : Statement (.wrRspeed v) := BitVec.isLt _
theorem wrSspeed (v : Byte) : Statement (.wrSspeed v) := BitVec.isLt _
theorem wrBtnstate (v : Byte) : Statement (.wrBtnstate v) := BitVec.isLt _
theorem wrBtnen (v : Byte) : Statement (.wrBtnen v) := BitVec.isLt _
theorem wrLed0G (v : Byte) : Statement (.wrLed0G v) := BitVec.isLt _
theorem wrLed0R (v : Byte) : Statement (.wrLed0R v) := BitVec.isLt _
theorem wrLed0B (v : Byte) : Statement (.wrLed0B v) := BitVec.isLt _
theorem wrLed1G (v : Byte) : Statement (.wrLed1G v) := BitVec.isLt _
theorem wrLed1R (v : Byte) : Statement (.wrLed1R v) := BitVec.isLt _
theorem wrLed1B (v : Byte) : Statement (.wrLed1B v) := BitVec.isLt _
theorem wrLed2G (v : Byte) : Statement (.wrLed2G v) := BitVec.isLt _
theorem wrLed2R (v : Byte) : Statement (.wrLed2R v) := BitVec.isLt _
theorem wrLed2B (v : Byte) : Statement (.wrLed2B v) := BitVec.isLt _
theorem wrLed3G (v : Byte) : Statement (.wrLed3G v) := BitVec.isLt _
theorem wrLed3R (v : Byte) : Statement (.wrLed3R v) := BitVec.isLt _
theorem wrLed3B (v : Byte) : Statement (.wrLed3B v) := BitVec.isLt _
theorem wrLed4G (v : Byte) : Statement (.wrLed4G v) := BitVec.isLt _
theorem wrLed4R (v : Byte) : Statement (.wrLed4R v) := BitVec.isLt _
theorem wrLed4B (v : Byte) : Statement (.wrLed4B v) := BitVec.isLt _
theorem wrUnmapped36_39 (idx : Byte) (v : Byte) : Statement (.wrUnmapped36_39 idx v) := BitVec.isLt _
theorem wrUnmapped40_47 (idx : Byte) (v : Byte) : Statement (.wrUnmapped40_47 idx v) := BitVec.isLt _
theorem wrUnmapped48_63 (idx : Byte) (v : Byte) : Statement (.wrUnmapped48_63 idx v) := BitVec.isLt _
theorem wrUnmapped64_127 (idx : Byte) (v : Byte) : Statement (.wrUnmapped64_127 idx v) := BitVec.isLt _
theorem wrUnmapped128_255 (idx : Byte) (v : Byte) : Statement (.wrUnmapped128_255 idx v) := BitVec.isLt _
theorem rdFwlo : Statement .rdFwlo := BitVec.isLt _
theorem rdFwhi : Statement .rdFwhi := BitVec.isLt _
theorem rdGpiomode : Statement .rdGpiomode := BitVec.isLt _
theorem rdGpioin : Statement .rdGpioin := BitVec.isLt _
theorem rdGpioout : Statement .rdGpioout := BitVec.isLt _
theorem rdMode : Statement .rdMode := BitVec.isLt _
theorem rdTdelta0L : Statement .rdTdelta0L := BitVec.isLt _
theorem rdTdelta0H : Statement .rdTdelta0H := BitVec.isLt _
theorem rdTdelta1L : Statement .rdTdelta1L := BitVec.isLt _
theorem rdTdelta1H : Statement .rdTdelta1H := BitVec.isLt _
theorem rdTdelta2L : Statement .rdTdelta2L := BitVec.isLt _
theorem rdTdelta2H : Statement .rdTdelta2H := BitVec.isLt _
theorem rdTdelta3L : Statement .rdTdelta3L := BitVec.isLt _
theorem rdTdelta3H : Statement .rdTdelta3H := BitVec.isLt _
theorem rdTdelta4L : Statement .rdTdelta4L := BitVec.isLt _
theorem rdTdelta4H : Statement .rdTdelta4H := BitVec.isLt _
theorem rdLevel : Statement .rdLevel := BitVec.isLt _
theorem rdRspeed : Statement .rdRspeed := BitVec.isLt _
theorem rdSspeed : Statement .rdSspeed := BitVec.isLt _
theorem rdBtnstate : Statement .rdBtnstate := BitVec.isLt _
theorem rdBtnen : Statement .rdBtnen := BitVec.isLt _
theorem rdLed0G : Statement .rdLed0G := BitVec.isLt _
theorem rdLed0R : Statement .rdLed0R := BitVec.isLt _
theorem rdLed0B : Statement .rdLed0B := BitVec.isLt _
theorem rdLed1G : Statement .rdLed1G := BitVec.isLt _
theorem rdLed1R : Statement .rdLed1R := BitVec.isLt _
theorem rdLed1B : Statement .rdLed1B := BitVec.isLt _
theorem rdLed2G : Statement .rdLed2G := BitVec.isLt _
theorem rdLed2R : Statement .rdLed2R := BitVec.isLt _
theorem rdLed2B : Statement .rdLed2B := BitVec.isLt _
theorem rdLed3G : Statement .rdLed3G := BitVec.isLt _
theorem rdLed3R : Statement .rdLed3R := BitVec.isLt _
theorem rdLed3B : Statement .rdLed3B := BitVec.isLt _
theorem rdLed4G : Statement .rdLed4G := BitVec.isLt _
theorem rdLed4R : Statement .rdLed4R := BitVec.isLt _
theorem rdLed4B : Statement .rdLed4B := BitVec.isLt _
theorem rdUnmapped36_39 (idx : Byte) : Statement (.rdUnmapped36_39 idx) := BitVec.isLt _
theorem rdUnmapped40_47 (idx : Byte) : Statement (.rdUnmapped40_47 idx) := BitVec.isLt _
theorem rdUnmapped48_63 (idx : Byte) : Statement (.rdUnmapped48_63 idx) := BitVec.isLt _
theorem rdUnmapped64_127 (idx : Byte) : Statement (.rdUnmapped64_127 idx) := BitVec.isLt _
theorem rdUnmapped128_255 (idx : Byte) : Statement (.rdUnmapped128_255 idx) := BitVec.isLt _
theorem idRd (off : Byte) : Statement (.idRd off) := BitVec.isLt _
theorem idWr (off : Byte) (v : Byte) : Statement (.idWr off v) := BitVec.isLt _
theorem mPass : Statement .mPass := by unfold Statement; decide
theorem mSocial : Statement .mSocial := by unfold Statement; decide
theorem mRainbow : Statement .mRainbow := by unfold Statement; decide
theorem mPalA : Statement .mPalA := by unfold Statement; decide
theorem mPalB : Statement .mPalB := by unfold Statement; decide
theorem mScanR : Statement .mScanR := by unfold Statement; decide
theorem mScanG : Statement .mScanG := by unfold Statement; decide
theorem mScanB : Statement .mScanB := by unfold Statement; decide
theorem mReserved8_15 (m : Byte) : Statement (.mReserved8_15 m) := byte_fits m
theorem mReserved16_31 (m : Byte) : Statement (.mReserved16_31 m) := byte_fits m
theorem mReserved32_63 (m : Byte) : Statement (.mReserved32_63 m) := byte_fits m
theorem mReserved64_127 (m : Byte) : Statement (.mReserved64_127 m) := byte_fits m
theorem mReserved128_255 (m : Byte) : Statement (.mReserved128_255 m) := byte_fits m
theorem phWait : Statement .phWait := by unfold Statement; decide
theorem phGpio : Statement .phGpio := by unfold Statement; decide
theorem phTouch : Statement .phTouch := by unfold Statement; decide
theorem phButton : Statement .phButton := by unfold Statement; decide
theorem phPublish : Statement .phPublish := by unfold Statement; decide
theorem phRender : Statement .phRender := by unfold Statement; decide
theorem phSnapshot : Statement .phSnapshot := by unfold Statement; decide
theorem phTransmit : Statement .phTransmit := by unfold Statement; decide
theorem symS0 : Statement .symS0 := by unfold Statement; decide
theorem symS1 : Statement .symS1 := by unfold Statement; decide
theorem bootInit : Statement .bootInit := by unfold Statement; decide
theorem bootStrap : Statement .bootStrap := by unfold Statement; decide
theorem bootCalibrate : Statement .bootCalibrate := by unfold Statement; decide
theorem bootSelfcheck : Statement .bootSelfcheck := by unfold Statement; decide
theorem bootFallback : Statement .bootFallback := by unfold Statement; decide
theorem bootEnable : Statement .bootEnable := by unfold Statement; decide

end Sys2Proof.Laws.EncodeFits
end

