-- ==== Sys2Proof/Laws/Phases.lean ====
section
/-! SUPPORT. What the phases' bodies and the symbol operations do: PUBLISH register by register, the dispatch of
RENDER, the pieces of BUTTON and RENDER, a run of symbol operations, and the waveform of a gap. -/

namespace Sys2Proof.Machine

/-- The eight phases (R68). -/
theorem phase_cases (p : BitVec 3) :
    p = 0 ∨ p = 1 ∨ p = 2 ∨ p = 3 ∨ p = 4 ∨ p = 5 ∨ p = 6 ∨ p = 7 := by
  revert p; decide

/-! ### PUBLISH -/

/-- Every byte of the register file after phase PUBLISH (R150). -/
theorem publishedRf_get (s : State) (k : Nat) (hk : k < 36) : s.publishedRf[k] =
    if k = 3 then s.gpioIn.setWidth 8
    else if k = 5 then s.mode
    else if k = 16 then s.level
    else if k = 19 then buttonByte s.btnPrev s.btnCur
    else if h : 6 ≤ k ∧ k ≤ 15 then
      (if k % 2 = 0 then deltaLow (s.delta[(k - 6) / 2]'(by show _ < 5; omega))
        else deltaHigh (s.delta[(k - 6) / 2]'(by show _ < 5; omega)))
    else s.rf[k] := by
  simp only [State.publishedRf, publishDelta, Vector.getElem_set]
  interval_cases k <;> rfl

theorem publishedRf_channel (s : State) (i : Fin 5) :
    s.publishedRf[6 + 2 * i.val]'(by show _ < 36; omega) = deltaLow s.delta[i] ∧
      s.publishedRf[7 + 2 * i.val]'(by show _ < 36; omega) = deltaHigh s.delta[i] := by
  match i with
  | 0 => exact ⟨by rw [publishedRf_get]; rfl, by rw [publishedRf_get]; rfl⟩
  | 1 => exact ⟨by rw [publishedRf_get]; rfl, by rw [publishedRf_get]; rfl⟩
  | 2 => exact ⟨by rw [publishedRf_get]; rfl, by rw [publishedRf_get]; rfl⟩
  | 3 => exact ⟨by rw [publishedRf_get]; rfl, by rw [publishedRf_get]; rfl⟩
  | 4 => exact ⟨by rw [publishedRf_get]; rfl, by rw [publishedRf_get]; rfl⟩

/-- What a completing PH.PUBLISH leaves. -/
theorem execPhPublish_eq (s : State) :
    execPhPublish s = .next { s with rf := s.publishedRf, busMask := false, ph := 5 } := rfl

/-! ### Critical sections -/

theorem crit_sendFrame_eq (f : Frame) (s : State) : s.crit (State.sendFrame f) =
    { s with wire := s.wire ++ frameSymbols f, busMask := false } := rfl

theorem crit_sendFrame (f : Frame) {s : State} (h : s.busMask = false) :
    s.crit (State.sendFrame f) = s.sendFrame f := by
  simp only [State.crit, State.sendFrame, ← h]

/-! ### RENDER -/

theorem renderMode_defined {m : Byte} (s : State) (h : m.toNat ≤ 7) : renderMode m s = renderDefined m s :=
  if_pos (Nat.lt_succ_of_le h)

theorem renderMode_reserved {m : Byte} (s : State) (h : 8 ≤ m.toNat) : renderMode m s = renderReserved m s :=
  if_neg (Nat.not_lt_of_le h)

/-- The dispatch of RENDER runs the instruction the mode byte decodes to (R120). -/
theorem renderMode_eq (m : Byte) (s : State) : renderMode m s = exec (decodeMode m) s := by
  unfold renderMode renderDefined renderReserved decodeMode
  generalize m.toNat = n
  rcases n with _ | _ | _ | _ | _ | _ | _ | _ | n
  iterate 8 rfl
  rw [if_neg (by show ¬ _ < 8; omega)]
  simp only []
  repeat' split
  all_goals rfl

/-- RENDER in a mode 0 to 7, from a legal head (R120, R135). -/
theorem render_legal {m : Byte} {s : State} (h : m.toNat ≤ 7) (hl : s.HeadLegal) :
    ∃ t, renderMode m s = .next t ∧ t.HeadLegal := by
  rw [renderMode_defined s h]
  rcases (by omega : m.toNat = 0 ∨ m.toNat = 1 ∨ m.toNat = 2 ∨ m.toNat = 3 ∨ m.toNat = 4 ∨ m.toNat = 5 ∨
    m.toNat = 6 ∨ m.toNat = 7) with h | h | h | h | h | h | h | h <;> simp only [renderDefined, h]
  iterate 5 exact ⟨_, rfl, hl⟩
  all_goals exact ⟨_, scan_legal _ s hl, scanStep_legal _ _ hl⟩

/-- RENDER in a reserved mode (R133). -/
theorem render_reserved {m : Byte} (s : State) (h : 8 ≤ m.toNat) :
    renderMode m s = .refused .reservedMode := by
  rw [renderMode_reserved s h, renderReserved]
  repeat' split
  all_goals rfl

/-- A mode operation changes `BUF`, `HUE`, `POS`, `DIR` and `ACC` at most. -/
theorem renderMode_frame {m : Byte} {s t : State} (h : renderMode m s = .next t) :
    m.toNat ≤ 7 ∧ t = { s with buf := t.buf, hue := t.hue, pos := t.pos, dir := t.dir, acc := t.acc } := by
  by_cases h8 : 8 ≤ m.toNat
  · rw [render_reserved s h8] at h
    cases h
  have h7 : m.toNat ≤ 7 := by omega
  refine ⟨h7, ?_⟩
  rw [renderMode_defined s h7] at h
  rcases (by omega : m.toNat = 0 ∨ m.toNat = 1 ∨ m.toNat = 2 ∨ m.toNat = 3 ∨ m.toNat = 4 ∨ m.toNat = 5 ∨
    m.toNat = 6 ∨ m.toNat = 7) with e | e | e | e | e | e | e | e <;> simp only [renderDefined, e] at h
  iterate 5 cases h; rfl
  all_goals
    obtain ⟨p, d, a, rfl⟩ := scan_cases h
    rfl

/-- PH.BUTTON and PH.RENDER at the spec's default, `PREEMPT = phase` (log 13). -/
theorem execPhButton_eq (s : State) : execPhButton s =
    .next { s.buttoned s.env.takeButton.1 with env := s.env.takeButton.2 } := rfl

@[inherit_doc execPhButton_eq]
theorem execPhRender_eq (s : State) : execPhRender s =
    andThen (renderMode s.mode { s with mlat := s.mode }) fun t => { t with ph := 6 } := rfl

/-- What a completing PH.RENDER is. -/
theorem execPhRender_next {s t : State} (h : execPhRender s = .next t) :
    ∃ u, renderMode s.mode { s with mlat := s.mode } = .next u ∧ t = { u with ph := 6 } :=
  andThen_eq_next.1 h

/-! ### The pieces of BUTTON and RENDER at `PREEMPT = statement` (R154) -/

/-- With no bus operation between them the pieces of BUTTON are the whole phase. -/
theorem buttonPieces_whole {s t : State} (h : s.inside = .boundary)
    (ht : t = { s.buttoned s.env.takeButton.1 with env := s.env.takeButton.2 }) :
    if pressEdge s.btnCur s.env.takeButton.1 && s.btnEn then s.buttonPiece.buttonPiece.buttonPiece = t
    else s.buttonPiece = t := by
  subst ht
  split
  · next hp => simp [State.buttonPiece, State.buttoned, h, hp]
  · next hp => simp [State.buttonPiece, State.buttoned, h, hp]

/-- With no bus operation between them the pieces of RENDER are the whole phase. -/
theorem renderPieces_whole {s : State} (h : s.inside = .boundary) :
    ∃ t, renderPiece s = .next t ∧ renderPiece t =
      andThen (renderMode s.mode { s with mlat := s.mode, inside := .latched }) fun u =>
        { u with ph := 6, inside := .boundary } := by
  refine ⟨{ s with mlat := s.mode, inside := .latched }, ?_, rfl⟩
  simp [renderPiece, h]

/-! ### SNAPSHOT and TRANSMIT -/

theorem execPhSnapshot_zero {s : State} (h : s.mlat = 0) : execPhSnapshot s = .next { s with ph := 7 } := by
  simp only [execPhSnapshot, h, if_true]

theorem execPhSnapshot_modes {s : State} (h0 : s.mlat ≠ 0) (h : s.mlat.toNat ≤ 7) :
    execPhSnapshot s = .next { s with rf := withLedBytes s.rf s.buf, busMask := false, ph := 7 } := by
  simp only [execPhSnapshot, h0, Config.lastMode_eq, h, if_false, if_true, State.crit]

theorem execPhSnapshot_reserved {s : State} (h : 8 ≤ s.mlat.toNat) :
    execPhSnapshot s = .refused .reservedMode := by
  have h0 : s.mlat ≠ 0 := by rintro e; rw [e] at h; exact absurd h (by decide)
  have h7 : ¬ s.mlat.toNat ≤ 7 := by omega
  simp only [execPhSnapshot, h0, Config.lastMode_eq, h7, if_false]

theorem crit_sendLedBytes (s : State) : s.crit (fun t => t.sendFrame (ledBytes t.rf)) =
    { s with wire := s.wire ++ frameSymbols (ledBytes s.rf), busMask := false } := rfl

theorem crit_sendBuf (s : State) : s.crit (fun t => t.sendFrame t.buf) =
    { s with wire := s.wire ++ frameSymbols s.buf, busMask := false } := rfl

theorem execPhTransmit_zero {s : State} (h : s.mlat = 0) : execPhTransmit s =
    .next { s with wire := s.wire ++ frameSymbols (ledBytes s.rf), busMask := false, ph := 0 } := by
  rw [execPhTransmit, if_pos h]
  rfl

theorem execPhTransmit_crit {s : State} (h0 : s.mlat ≠ 0) (h : s.mlat.toNat ≤ 7) :
    execPhTransmit s = .next { s.crit (fun t => t.sendFrame t.buf) with ph := 0 } := by
  have h' : s.mlat.toNat ≤ Config.lastMode := h
  unfold execPhTransmit
  rw [if_neg h0, if_pos h']

theorem transmitted_buf (s : State) :
    (.next { s.crit (fun t => t.sendFrame t.buf) with ph := 0 } : Answer) =
      .next { s with wire := s.wire ++ frameSymbols s.buf, busMask := false, ph := 0 } := by
  rw [crit_sendBuf]

theorem execPhTransmit_modes {s : State} (h0 : s.mlat ≠ 0) (h : s.mlat.toNat ≤ 7) :
    execPhTransmit s = .next { s with wire := s.wire ++ frameSymbols s.buf, busMask := false, ph := 0 } :=
  (execPhTransmit_crit h0 h).trans (transmitted_buf s)

theorem execPhTransmit_reserved {s : State} (h : 8 ≤ s.mlat.toNat) :
    execPhTransmit s = .refused .reservedMode := by
  have h0 : s.mlat ≠ 0 := by rintro e; rw [e] at h; exact absurd h (by decide)
  have h7 : ¬ s.mlat.toNat ≤ 7 := by omega
  simp only [execPhTransmit, h0, Config.lastMode_eq, h7, if_false]

/-! ### What a completing phase leaves alone -/

theorem execPhSnapshot_frame {s t : State} (h : execPhSnapshot s = .next t) :
    s.mlat.toNat ≤ 7 ∧ t = { s with rf := t.rf, busMask := t.busMask, ph := 7 } := by
  by_cases h0 : s.mlat = 0
  · rw [execPhSnapshot_zero h0] at h
    cases h
    exact ⟨by rw [h0]; decide, rfl⟩
  · by_cases h7 : s.mlat.toNat ≤ 7
    · rw [execPhSnapshot_modes h0 h7] at h
      cases h
      exact ⟨h7, rfl⟩
    · rw [execPhSnapshot_reserved (by omega)] at h
      cases h

theorem execPhTransmit_frame {s t : State} (h : execPhTransmit s = .next t) :
    ∃ f, t = { s with wire := s.wire ++ frameSymbols f, busMask := false, ph := 0 } := by
  by_cases h0 : s.mlat = 0
  · rw [execPhTransmit_zero h0] at h
    cases h
    exact ⟨_, rfl⟩
  · by_cases h7 : s.mlat.toNat ≤ 7
    · rw [execPhTransmit_modes h0 h7] at h
      cases h
      exact ⟨_, rfl⟩
    · rw [execPhTransmit_reserved (by omega)] at h
      cases h

theorem execPhRender_frame {s t : State} (h : execPhRender s = .next t) :
    s.mode.toNat ≤ 7 ∧
      t = { s with
        mlat := s.mode, ph := 6, buf := t.buf, hue := t.hue, pos := t.pos, dir := t.dir, acc := t.acc } := by
  obtain ⟨u, hu, rfl⟩ := execPhRender_next h
  have hf := renderMode_frame hu
  refine ⟨hf.1, ?_⟩
  rw [hf.2]

theorem execPhWait_frame {s t : State} (h : execPhWait s = .next t) :
    t = { s with now := t.now, lastTick := t.lastTick, ph := t.ph, env := t.env } ∧ (t.ph = s.ph ∨ t.ph = 1) := by
  unfold execPhWait at h
  cases h
  split
  · exact ⟨rfl, .inr rfl⟩
  · exact ⟨rfl, .inl rfl⟩

/-! ### Boot steps -/

theorem execBootInit_eq (s : State) :
    execBootInit s = .next { State.reset with
      base := s.base
      standalone := s.standalone
      lastTick := s.lastTick
      ok := s.ok
      replies := s.replies
      env := s.env
      rf := (((Config.rfPowerOn.set 17 Config.rspeedReset).set 18 Config.sspeedReset).set 0
        (Config.fwVersion.extractLsb' 0 8)).set 1 (Config.fwVersion.extractLsb' 8 8)
      now := s.now + Config.tStartup
      boot := some .strap } := rfl

theorem execBootStrap_eq (s : State) :
    execBootStrap s = .next { s with
      standalone := s.env.takeStrap.1
      env := s.env.takeStrap.2
      boot := some .calibrate
      rf := if s.env.takeStrap.1 then (s.rf.set 5 1).set 20 1 else s.rf
      mode := if s.env.takeStrap.1 then 1 else s.mode
      btnEn := if s.env.takeStrap.1 then true else s.btnEn } := by
  simp only [execBootStrap]
  split <;> rfl

theorem execBootFallback_eq (s : State) :
    execBootFallback s = .next { s with
      wire := s.wire ++ frameSymbols Config.fallback
      now := s.now + Config.tFallbackPause
      busMask := false
      boot := some .enable } := by
  unfold execBootFallback
  rw [crit_sendFrame_eq]
  rfl

/-! ### Symbol operations -/

/-- A run of symbol operations appends one symbol for each data bit (R162). -/
theorem execAll_sym (bs : List Bool) (s : State) :
    execAll (bs.map decodeSym) s = .next { s with wire := s.wire ++ bs.map symOf } := by
  induction bs generalizing s with
  | nil => simp [execAll]
  | cons b bs ih =>
    have h : exec (decodeSym b) s = .next (s.emit (symOf b)) := by cases b <;> rfl
    rw [List.map_cons, execAll_cons h, ih]
    simp [State.emit]

/-- The waveform of one symbol more (R160, R169). -/
theorem State.line_snoc {s t : State} {x : Sym} (h : t.wire = s.wire ++ [x]) :
    t.line = s.line ++ x.pulse s.wire.length := by
  simp [State.line, h, List.zipIdx_append]

/-- Every gap is low, for at least `T_RESET` (R168, R169). -/
theorem Sym.pulse_gap (n : Nat) : ∃ d, Config.tReset ≤ d ∧ Sym.gap.pulse n = [(false, d)] :=
  ⟨_, Nat.le_add_right _ _, rfl⟩

@[simp] theorem frameSymbols_length (f : Frame) : (frameSymbols f).length = 121 := by
  simp [frameSymbols]

end Sys2Proof.Machine
end

