-- ==== Sys2Proof/Tests/Slice0.lean ====
section
/-! SUPPORT. Tests: ill-formed instructions, a word of every constructor written out from the spec's encodings,
effects taken from the spec's vectors (95_test_vectors.md), and a witness for the hypotheses of each statement. -/

namespace Sys2Proof.Tests

open Sys2Proof.Machine

/-! ### WellFormed: an ill-formed term for each range check (R67, R72) -/

theorem test_ill_formed_writes :
    ([
      .wrUnmapped36_39 35 0, .wrUnmapped36_39 40 0, .wrUnmapped40_47 39 0, .wrUnmapped40_47 48 0,
      .wrUnmapped48_63 47 0, .wrUnmapped48_63 64 0, .wrUnmapped64_127 63 0, .wrUnmapped64_127 128 0,
      .wrUnmapped128_255 127 0] : List Instr).all (fun i => !i.wf) = true := by decide

theorem test_ill_formed_reads :
    ([
      .rdUnmapped36_39 35, .rdUnmapped36_39 40, .rdUnmapped40_47 39, .rdUnmapped40_47 48, .rdUnmapped48_63 47,
      .rdUnmapped48_63 64, .rdUnmapped64_127 63, .rdUnmapped64_127 128, .rdUnmapped128_255 127] : List Instr).all (fun i => !i.wf) = true := by decide

theorem test_ill_formed_modes :
    ([
      .mReserved8_15 7, .mReserved8_15 16, .mReserved16_31 15, .mReserved16_31 32, .mReserved32_63 31,
      .mReserved32_63 64, .mReserved64_127 63, .mReserved64_127 128, .mReserved128_255 127] : List Instr).all (fun i => !i.wf) = true := by decide

/-! ### Decoding: every constructor by a word of R67, R64, R68 or R66 -/

theorem test_decode_busop_writes_1 :
    ([
      (0b0_1_00000000_10100101, .wrFwlo 0xA5), (0b0_1_00000001_10100101, .wrFwhi 0xA5),
      (0b0_1_00000010_10100101, .wrGpiomode 0xA5), (0b0_1_00000011_10100101, .wrGpioin 0xA5),
      (0b0_1_00000100_10100101, .wrGpioout 0xA5), (0b0_1_00000101_10100101, .wrMode 0xA5),
      (0b0_1_00000110_10100101, .wrTdelta0L 0xA5), (0b0_1_00000111_10100101, .wrTdelta0H 0xA5),
      (0b0_1_00001000_10100101, .wrTdelta1L 0xA5), (0b0_1_00001001_10100101, .wrTdelta1H 0xA5),
      (0b0_1_00001010_10100101, .wrTdelta2L 0xA5), (0b0_1_00001011_10100101, .wrTdelta2H 0xA5),
      (0b0_1_00001100_10100101, .wrTdelta3L 0xA5), (0b0_1_00001101_10100101, .wrTdelta3H 0xA5),
      (0b0_1_00001110_10100101, .wrTdelta4L 0xA5), (0b0_1_00001111_10100101, .wrTdelta4H 0xA5),
      (0b0_1_00010000_10100101, .wrLevel 0xA5), (0b0_1_00010001_10100101, .wrRspeed 0xA5),
      (0b0_1_00010010_10100101, .wrSspeed 0xA5), (0b0_1_00010011_10100101, .wrBtnstate 0xA5),
      (0b0_1_00010100_10100101, .wrBtnen 0xA5)] : List (BusWord × Instr)).all
      (fun p => decide (decode .busop p.1 = .ok p.2)) = true := by decide

theorem test_decode_busop_writes_2 :
    ([
      (0b0_1_00010101_10100101, .wrLed0G 0xA5), (0b0_1_00010110_10100101, .wrLed0R 0xA5),
      (0b0_1_00010111_10100101, .wrLed0B 0xA5), (0b0_1_00011000_10100101, .wrLed1G 0xA5),
      (0b0_1_00011001_10100101, .wrLed1R 0xA5), (0b0_1_00011010_10100101, .wrLed1B 0xA5),
      (0b0_1_00011011_10100101, .wrLed2G 0xA5), (0b0_1_00011100_10100101, .wrLed2R 0xA5),
      (0b0_1_00011101_10100101, .wrLed2B 0xA5), (0b0_1_00011110_10100101, .wrLed3G 0xA5),
      (0b0_1_00011111_10100101, .wrLed3R 0xA5), (0b0_1_00100000_10100101, .wrLed3B 0xA5),
      (0b0_1_00100001_10100101, .wrLed4G 0xA5), (0b0_1_00100010_10100101, .wrLed4R 0xA5),
      (0b0_1_00100011_10100101, .wrLed4B 0xA5), (0b0_1_00100111_10100101, .wrUnmapped36_39 39 0xA5),
      (0b0_1_00101111_10100101, .wrUnmapped40_47 47 0xA5), (0b0_1_00111111_10100101, .wrUnmapped48_63 63 0xA5),
      (0b0_1_01111111_10100101, .wrUnmapped64_127 127 0xA5),
      (0b0_1_11111111_10100101, .wrUnmapped128_255 255 0xA5)] : List (BusWord × Instr)).all
      (fun p => decide (decode .busop p.1 = .ok p.2)) = true := by decide

theorem test_decode_busop_reads_1 :
    ([
      (0b0_0_00000000_00000000, .rdFwlo), (0b0_0_00000001_00000000, .rdFwhi),
      (0b0_0_00000010_00000000, .rdGpiomode), (0b0_0_00000011_00000000, .rdGpioin),
      (0b0_0_00000100_00000000, .rdGpioout), (0b0_0_00000101_00000000, .rdMode),
      (0b0_0_00000110_00000000, .rdTdelta0L), (0b0_0_00000111_00000000, .rdTdelta0H),
      (0b0_0_00001000_00000000, .rdTdelta1L), (0b0_0_00001001_00000000, .rdTdelta1H),
      (0b0_0_00001010_00000000, .rdTdelta2L), (0b0_0_00001011_00000000, .rdTdelta2H),
      (0b0_0_00001100_00000000, .rdTdelta3L), (0b0_0_00001101_00000000, .rdTdelta3H),
      (0b0_0_00001110_00000000, .rdTdelta4L), (0b0_0_00001111_00000000, .rdTdelta4H),
      (0b0_0_00010000_00000000, .rdLevel), (0b0_0_00010001_00000000, .rdRspeed),
      (0b0_0_00010010_00000000, .rdSspeed), (0b0_0_00010011_00000000, .rdBtnstate),
      (0b0_0_00010100_00000000, .rdBtnen)] : List (BusWord × Instr)).all
      (fun p => decide (decode .busop p.1 = .ok p.2)) = true := by decide

theorem test_decode_busop_reads_2 :
    ([
      (0b0_0_00010101_00000000, .rdLed0G), (0b0_0_00010110_00000000, .rdLed0R),
      (0b0_0_00010111_00000000, .rdLed0B), (0b0_0_00011000_00000000, .rdLed1G),
      (0b0_0_00011001_00000000, .rdLed1R), (0b0_0_00011010_00000000, .rdLed1B),
      (0b0_0_00011011_00000000, .rdLed2G), (0b0_0_00011100_00000000, .rdLed2R),
      (0b0_0_00011101_00000000, .rdLed2B), (0b0_0_00011110_00000000, .rdLed3G),
      (0b0_0_00011111_00000000, .rdLed3R), (0b0_0_00100000_00000000, .rdLed3B),
      (0b0_0_00100001_00000000, .rdLed4G), (0b0_0_00100010_00000000, .rdLed4R),
      (0b0_0_00100011_00000000, .rdLed4B), (0b0_0_00100111_00000000, .rdUnmapped36_39 39),
      (0b0_0_00101111_00000000, .rdUnmapped40_47 47), (0b0_0_00111111_00000000, .rdUnmapped48_63 63),
      (0b0_0_01111111_00000000, .rdUnmapped64_127 127), (0b0_0_11111111_00000000, .rdUnmapped128_255 255),
      (0b1_0_00000011_00000000, .idRd 3)] : List (BusWord × Instr)).all
      (fun p => decide (decode .busop p.1 = .ok p.2)) = true := by decide

theorem test_decode_busop_reads_3 :
    ([
      (0b1_1_00000011_10100101, .idWr 3 0xA5)] : List (BusWord × Instr)).all
      (fun p => decide (decode .busop p.1 = .ok p.2)) = true := by decide

theorem test_decode_mode :
    ([
      (0b00000000, .mPass), (0b00000001, .mSocial), (0b00000010, .mRainbow), (0b00000011, .mPalA),
      (0b00000100, .mPalB), (0b00000101, .mScanR), (0b00000110, .mScanG), (0b00000111, .mScanB),
      (0b00001111, .mReserved8_15 15), (0b00011111, .mReserved16_31 31), (0b00111111, .mReserved32_63 63),
      (0b01111111, .mReserved64_127 127), (0b11111111, .mReserved128_255 255)] : List (BusWord × Instr)).all
      (fun p => decide (decode .mode p.1 = .ok p.2)) = true := by decide

theorem test_decode_phase :
    ([
      (0b000, .phWait), (0b001, .phGpio), (0b010, .phTouch), (0b011, .phButton), (0b100, .phPublish),
      (0b101, .phRender), (0b110, .phSnapshot), (0b111, .phTransmit)] : List (BusWord × Instr)).all
      (fun p => decide (decode .phase p.1 = .ok p.2)) = true := by decide

theorem test_decode_sym :
    ([
      (0b0, .symS0), (0b1, .symS1)] : List (BusWord × Instr)).all
      (fun p => decide (decode .sym p.1 = .ok p.2)) = true := by decide

theorem test_decode_boot :
    ([
      (0b000, .bootInit), (0b001, .bootStrap), (0b010, .bootCalibrate), (0b011, .bootSelfcheck),
      (0b100, .bootFallback), (0b101, .bootEnable)] : List (BusWord × Instr)).all
      (fun p => decide (decode .boot p.1 = .ok p.2)) = true := by decide

theorem test_decode_rejects :
    decode .boot 6 = .error .unusedBootStep ∧ decode .boot 7 = .error .unusedBootStep ∧
      decode .mode 256 = .error .bitsAboveFormat ∧ decode .phase 8 = .error .bitsAboveFormat ∧
      decode .sym 2 = .error .bitsAboveFormat ∧ decodeBytes .busop [1, 5] = .error .wrongLength ∧
      decodeBytes .busop [1, 5, 4] = .error .bitsAboveFormat := by decide

/-- The first byte is the lowest of the word. -/
theorem test_decode_bytes : decodeBytes .busop [1, 5, 1] = .ok (.wrMode 1) ∧
    decodeTableWord 24 0x10501 = some (.wrMode 1) ∧ decodeTableWord 8 6 = some .mScanG ∧
    decodeTableWord 3 4 = some .phPublish ∧ decodeTableWord 1 1 = some .symS1 := by decide

/-- A read whose data byte is not 0 is the same read (R67). -/
theorem test_decode_read_ignores_data : decode .busop 0x01377 = .ok .rdBtnstate := by decide

/-! ### Effects, from the spec's vectors -/

/-- After boot, with the baseline of 95_test_vectors.md and every register the spec leaves open at 0. -/
def rig : State :=
  { State.reset with
    boot := none
    rspeed := 0
    sspeed := 0
    base := #v[1000, 1000, 1000, 1000, 1000]
    rf := #v[0, 0, 0, 0, 0, 0, 0, 0, 0, 0, 0, 0, 0, 0, 0, 0, 0, 0, 0, 0, 0, 0, 0, 0, 0, 0, 0, 0, 0, 0, 0, 0, 0, 0, 0, 0] }

/-- `p` holds of the state an operation answers. -/
def after (i : Instr) (s : State) (p : State → Bool) : Bool :=
  match exec i s with
  | .next t => p t
  | _ => false

/-- V21: the byte is stored whole, the upper four bits included; the pin register takes the lower four. -/
theorem test_write_gpio_mode :
    after (.wrGpiomode 0xF5) rig (fun t => t.rf[2] == 0xF5 && t.gpioMode == 0x5) = true := by decide

/-- V21. -/
theorem test_write_gpio_out :
    after (.wrGpioout 0x0A) rig (fun t => t.rf[4] == 0x0A && t.gpioOut == 0xA) = true := by decide

/-- V21. -/
theorem test_write_button_enable :
    after (.wrBtnen 0x80) rig (fun t => t.rf[20] == 0x80 && t.btnEn) = true ∧
      after (.wrBtnen 0) { rig with btnEn := true } (fun t => t.rf[20] == 0 && !t.btnEn) = true := by decide

/-- V22: read-only and unmapped indices, and a colour byte in mode 1. -/
theorem test_write_ignored :
    exec (.wrTdelta2L 0x12) rig = .next rig ∧ exec (.wrBtnstate 3) rig = .next rig ∧
      exec (.wrUnmapped40_47 40 1) rig = .next rig ∧
      after (.wrLed0G 0x55) { rig with mode := 1 } (fun t => t.rf[21] == 0) = true := by
  exact ⟨rfl, rfl, rfl, by decide⟩

/-- V23: a colour byte in mode 0; the buffer stays. -/
theorem test_write_led_in_mode_zero :
    after (.wrLed0G 0x55) rig (fun t => t.rf[21] == 0x55 && t.buf[0] == 0) = true := by decide

/-- R63: index 11 is the high half of channel 2, index 29 the blue byte of LED 2. -/
theorem test_register_index : channelOfIndex 11 = 2 ∧ halfOfIndex 11 = 1 ∧ ledOfIndex 29 = 2 ∧ colourOfIndex 29 = 2 := by
  decide

/-- Each read returns the byte of its own index. -/
theorem test_read_led :
    after .rdLed2B { rig with rf := rig.rf.set 29 0xFF } (fun t => t.replies == [0xFF]) = true := by decide

/-- V27: an identity read beyond the end draws, here the environment's next byte. -/
theorem test_read_unmapped_draws :
    after (.rdUnmapped40_47 40) { rig with env := { rig.env with bytes := [7, 8] } }
      (fun t => t.replies == [7] && t.env.bytes == [8]) = true := by decide

/-- V28: the threshold is strict; channel 2, raw 2900 and 2901. -/
theorem test_touch_threshold :
    after .phTouch { rig with env := { rig.env with touch := [1000, 1000, 2900, 1000, 1000] } }
        (fun t => t.level == 0 && t.delta[2] == 1900) = true ∧
      after .phTouch { rig with env := { rig.env with touch := [1000, 1000, 2901, 1000, 1000] } }
        (fun t => t.level == 2 && t.ph == 3) = true := by decide

/-- V3 and V29: the higher index wins; the difference wraps to 16 bits and is signed. -/
theorem test_touch_tie_and_wrap :
    after .phTouch { rig with level := 4, env := { rig.env with touch := [1000, 3000, 1000, 3000, 1000] } }
        (fun t => t.level == 3) = true ∧
      after .phTouch { rig with level := 3, env := { rig.env with touch := [40000, 0, 1000, 1000, 1000] } }
        (fun t => t.level == 3 && t.delta[0].toInt == -26536 && t.delta[1].toInt == -1000) = true := by decide

/-- V50, V53: 6 to 7, 7 to 1, 9 to 1, 0 to 1 on an enabled press edge. -/
theorem test_button_cycle :
    ([(6, 7), (7, 1), (9, 1), (0, 1), (255, 1)] : List (Byte × Byte)).all (fun p =>
      after .phButton { rig with btnEn := true, mode := p.1, env := { rig.env with button := [true] } }
        (fun t => t.mode == p.2 && t.btnCur && !t.btnPrev)) = true := by decide

/-- V51, V52: a held button and a disabled one do not advance. -/
theorem test_button_held_or_disabled :
    after .phButton { rig with btnEn := true, btnCur := true, mode := 2, env := { rig.env with button := [true] } }
        (fun t => t.mode == 2 && t.btnPrev) = true ∧
      after .phButton { rig with mode := 3, env := { rig.env with button := [true] } }
        (fun t => t.mode == 3 && t.btnCur) = true := by decide

/-- R154: at `PREEMPT = statement` a host write of mode 6 between BUTTON's read of mode 2 and its write leaves 3. -/
theorem test_button_cut_by_write :
    after (.wrMode 6)
      ({ rig with ph := 3, btnEn := true, mode := 2, env := { rig.env with button := [true] } } : State).buttonPiece.buttonPiece
      (fun t => t.mode == 6 && t.buttonPiece.mode == 3 && t.buttonPiece.ph == 4) = true := by decide

/-- R120: at `PREEMPT = statement` RENDER runs the latched mode 1, with the level the host wrote after the latch. -/
theorem test_render_cut_by_writes :
    (match renderPiece { rig with ph := 5, mode := 1 } with
      | .next s => match execAll [.wrMode 0, .wrLevel 2] s with
        | .next t => match renderPiece t with
          | .next u => u.mlat == 1 && u.mode == 0 && u.buf[0] == 0x64 && u.ph == 6
          | _ => false
        | _ => false
      | _ => false) = true := by decide

/-- V24: published delta bytes, low byte first; V25: the button byte; V26: GPIO. -/
theorem test_publish :
    after .phPublish { rig with delta := #v[-2, -1000, 1901, 32767, -32768], btnPrev := true, gpioIn := 15, mode := 6 }
      (fun t => t.rf[6] == 0xFE && t.rf[7] == 0xFF && t.rf[8] == 0x18 && t.rf[9] == 0xFC && t.rf[10] == 0x6D &&
        t.rf[11] == 0x07 && t.rf[14] == 0x00 && t.rf[15] == 0x80 && t.rf[19] == 0x02 && t.rf[3] == 0x0F &&
        t.rf[5] == 6) = true := by decide

/-- V36: mode 1, level 2, blue on channel 2. -/
theorem test_social :
    after .mSocial { rig with level := 2, delta := #v[0, 0, 2100, 0, 0] } (fun t => t.buf ==
      #v[0x64, 0x9B, 0, 0x64, 0x9B, 0, 0x64, 0x9B, 0xFF, 0, 0, 0, 0, 0, 0]) = true := by decide

/-- V35, V39: saturation at level 6; blue on a dark LED. -/
theorem test_social_saturates :
    after .mSocial { rig with level := 6 } (fun t => t.buf[0] == 0xFF && t.buf[1] == 0 && t.buf[12] == 0xFF) = true ∧
      after .mSocial { rig with delta := #v[0, 0, 0, 0, 2100] } (fun t => t.buf[12] == 0 && t.buf[14] == 0xFF) = true := by
  decide

/-- V45: hue arguments, and the hue counter after the tick. -/
theorem test_rainbow :
    (List.range 5).map (hueArg 250 10) = [250, 4, 14, 24, 34] ∧
      (List.range 5).map (hueArg 255 64) = [255, 63, 127, 191, 255] ∧
      after .mRainbow { rig with hue := 255 } (fun t => t.hue == 0) = true := by decide

/-- V40, tick 8: from POS 1 backward to POS 0, where the direction turns; the red byte of LED 0 lights. -/
theorem test_scan_red_turns :
    after .mScanR { rig with sspeed := 255, pos := 1, dir := .backward }
      (fun t => t.pos == 0 && decide (t.dir = .forward) && t.acc == 0 && t.buf[1] == 0x32) = true := by decide

/-- V42: green, saturating from 250. -/
theorem test_scan_green_saturates :
    after .mScanG { rig with acc := 6, buf := rig.buf.set 0 0xFA }
      (fun t => t.buf[0] == 0xFF && t.pos == 0 && t.acc == 7) = true := by decide

/-- V41, tick 3: blue; the head has moved to LED 1, the byte it left decays. -/
theorem test_scan_blue_moves :
    after .mScanB { rig with sspeed := 253, acc := 2, buf := rig.buf.set 2 0x5A }
      (fun t => t.pos == 1 && t.acc == 0 && t.buf[2] == 0x50 && t.buf[5] == 0x32) = true := by decide

/-- V1: the byte `0xA5` on the line. -/
theorem test_send_byte :
    (byteBits 0xA5).map symOf = [.s1, .s0, .s1, .s0, .s0, .s1, .s0, .s1] := by decide

/-- R169: the rows of the timing table; the gap is `T_RESET` and any time more. -/
theorem test_line_pulses : ({ rig with wire := [.s1, .s0, .gap] } : State).line =
    [(true, Config.t1h), (false, Config.t1l), (true, Config.t0h), (false, Config.t0l),
      (false, Config.tReset + Config.gapExcess 2)] := rfl

/-- R7: the frame has a byte for each colour of each LED, and the last level is the last channel. -/
theorem test_sizes : Config.nBuf = Config.nLed * Config.nChan ∧ Config.nTouch = Config.levelMax + 1 ∧
    Config.nMode = Config.lastMode + 1 := by decide

/-- TRANSMIT in mode 0 sends the register bytes, in modes 1 to 7 the buffer (R153). -/
theorem test_transmit_source :
    after .phTransmit { rig with ph := 7, rf := rig.rf.set 21 0x80 }
        (fun t => decide (t.wire.head? = some .s1) && t.ph == 0) = true ∧
      after .phTransmit { rig with ph := 7, mlat := 7, rf := rig.rf.set 21 0x80 }
        (fun t => decide (t.wire.head? = some .s0)) = true := by decide

/-- SNAPSHOT in mode 7 and in mode 0 (R152). -/
theorem test_snapshot :
    after .phSnapshot { rig with mlat := 7, buf := rig.buf.set 14 9 } (fun t => t.rf[35] == 9 && t.ph == 7) = true ∧
      after .phSnapshot { rig with buf := rig.buf.set 14 9 } (fun t => t.rf[35] == 0) = true := by decide

/-- R192: the strap forces mode 1 and the button. -/
theorem test_boot_strap :
    after .bootStrap { rig with env := { rig.env with strap := [true] } }
      (fun t => t.mode == 1 && t.btnEn && t.rf[5] == 1 && t.rf[20] == 1 && t.standalone) = true := by decide

/-- R111's example. -/
theorem test_boot_calibrate :
    after .bootCalibrate { rig with env := { rig.env with touch := [1000, 1010, 990, 1005, 1000] } }
      (fun t => t.base == #v[1000, 1010, 990, 1005, 1000]) = true := by decide

/-- V8: bus lines low. -/
theorem test_boot_selfcheck :
    after .bootSelfcheck { rig with env := { rig.env with busHigh := [false] } }
      (fun t => decide (t.boot = some .fallback) && !t.busEn) = true := by decide

/-- R196. -/
theorem test_boot_enable :
    after .bootEnable { rig with boot := some .enable, ok := true, now := 5, env := { rig.env with elapsed := [7] } }
      (fun t => t.busEn && t.lastTick == 12 && decide (t.boot = none)) = true := by decide

/-- The first step after power-on is INIT (R190). -/
theorem test_first_step : ∃ t, step State.reset = .next t ∧ t.boot = some .strap := ⟨_, rfl, rfl⟩

/-- What `withFetchWord` places is what the next step runs. -/
theorem test_fetch_word :
    (match step (State.reset.withFetchWord 24 0x11511) with
      | .next t => t.rf[21] == 0x11
      | _ => false) = true ∧
    step (State.reset.withFetchWord 8 0x80) = .refused .reservedMode := ⟨by decide, rfl⟩

/-! ### Witnesses: the hypotheses of each statement hold together somewhere -/

/-- A state in the middle of a run, with what it needs filled in. -/
def running : State :=
  { State.reset with
    boot := none, ph := 1, mode := 5, mlat := 7, busEn := true, ok := true
    env := { Env.atPowerOn with turns := List.replicate 7 .tick, button := [true] } }

theorem running_inv : running.Inv where
  head := ⟨by decide, by decide, by decide⟩
  rspeed := rfl
  sspeed := rfl
  gpioMode := rfl
  gpioOut := rfl
  btnEn := by decide
  versionLow := rfl
  versionHigh := rfl
  gpioInputsHigh := rfl
  buttonStateHigh := rfl
  mask := rfl
  busOffInBoot := fun h => absurd rfl h
  busOnChecked := fun _ => rfl
  latched := fun h => by rcases h with h | h <;> exact absurd h (by decide)

/-- The same in phase RENDER of a reserved mode. -/
def reservedTick : State := { running with ph := 5, mode := 8, env := Env.atPowerOn.drawn }

theorem witness_DecodeEncodeRoundTrip : (Instr.wrUnmapped36_39 36 0xFF).wf = true ∧
    (Instr.rdUnmapped128_255 255).wf = true ∧ (Instr.mReserved8_15 8).wf = true := by decide

theorem witness_EveryWordIsExactlyOneInstruction : Format.busop ≠ .boot ∧
    (0x3FFFF : BusWord).toNat < 2 ^ Format.busop.width ∧ (7 : BusWord).toNat < 2 ^ Format.phase.width := by decide

theorem witness_ControlSurfaceWords : (Instr.rdLed4B, (35 : Fin 36)) ∈ mappedReads ∧
    (Instr.wrLed4B, (35 : Fin 36)) ∈ storingWrites ++ readOnlyWrites ++ ledWrites := by
  simp [mappedReads, storingWrites, readOnlyWrites, ledWrites]

/-- The boot step, the phase by turn, the phase because the bus is off, the bus operation. -/
theorem witness_StepRunsTheDecodedOperation :
    State.reset.boot = some .init ∧ decode .boot (BootStep.init.code.setWidth 18) = .ok .bootInit ∧
    running.boot = none ∧ running.env.takeTurn.1 = .tick ∧ decode .phase (running.ph.setWidth 18) = .ok .phGpio ∧
    ({ running with busEn := false }).busEn = false ∧
    (rig.withFetchWord 24 0x10501).env.takeTurn.1 = .bus ∧ (rig.withFetchWord 24 0x10501).busEn = true ∧
    (rig.withFetchWord 24 0x10501).busMask = false ∧
    decode .busop (rig.withFetchWord 24 0x10501).env.takeTurn.2.takeHostOp.1 = .ok (.wrMode 1) := by decide

theorem witness_MappedReadsReturnTheRegister : (Instr.rdFwlo, (0 : Fin 36)) ∈ mappedReads := by simp [mappedReads]

theorem witness_UnmappedReadsDraw : Instr.rdUnmapped128_255 ∈ unmappedReads := by simp [unmappedReads]

/-- Two states that differ with the same register file. -/
theorem witness_ReadsSeeOnlyTheRegisterFile : (Instr.rdMode, (5 : Fin 36)) ∈ mappedReads ∧
    rig.rf = ({ rig with mode := 3 } : State).rf ∧ rig.mode ≠ ({ rig with mode := 3 } : State).mode := by
  refine ⟨by simp [mappedReads], rfl, by decide⟩

theorem witness_RainbowSpeedWrite : ∃ t, exec (.wrRspeed 255) rig = .next t := ⟨_, rfl⟩

theorem witness_ReadOnlyWritesAreIgnored : (Instr.wrBtnstate, (19 : Fin 36)) ∈ readOnlyWrites := by
  simp [readOnlyWrites]

theorem witness_UnmappedWritesAreIgnored : Instr.wrUnmapped36_39 ∈ unmappedWrites := by simp [unmappedWrites]

/-- Both branches: mode 0 and mode 1. -/
theorem witness_LedWritesOnlyInModeZero : (Instr.wrLed0G, (21 : Fin 36)) ∈ ledWrites ∧ rig.mode = 0 ∧
    ({ rig with mode := 1 } : State).mode ≠ 0 := by
  refine ⟨by simp [ledWrites], rfl, by decide⟩

theorem witness_WriteThenReadReturnsTheByte :
    (Instr.wrLed0G, (21 : Fin 36)) ∈ storingWrites ++ ledWrites ∧ (Instr.rdLed0G, (21 : Fin 36)) ∈ mappedReads ∧
      rig.mode = 0 ∧ (Instr.wrBtnen, (20 : Fin 36)) ∈ storingWrites ++ ledWrites ∧
      (Instr.rdBtnen, (20 : Fin 36)) ∈ mappedReads ∧ ¬ 21 ≤ (20 : Fin 36).val := by
  refine ⟨?_, ?_, rfl, ?_, ?_, by decide⟩ <;> simp [storingWrites, ledWrites, mappedReads]

/-- A register byte that changes while `MODE` is 0. -/
theorem witness_HostAccessRights : (Instr.wrLed4B 1).format = .busop ∧
    after (.wrLed4B 1) rig (fun t => t.rf[35] != rig.rf[35]) = true := by decide

/-- A counter at 5 and 7 units that pass before the reading. -/
theorem witness_WaitPhase : (12 : Ticks) = ({ rig with now := 5, env := { rig.env with elapsed := [7] } } : State).now +
    ({ rig with now := 5, env := { rig.env with elapsed := [7] } } : State).env.takeElapsed.1 := by decide

/-- Both clauses at the threshold: 1900 on every channel, and 1901 on channel 3 with 1900 on channel 4. -/
theorem witness_TouchPhase :
    after .phTouch { rig with env := { rig.env with touch := [2900, 2900, 2900, 2900, 2900] } }
      (fun t => decide (∀ i : Fin 5, t.delta[i].toInt ≤ 1900)) = true ∧
    after .phTouch { rig with env := { rig.env with touch := [2901, 2900, 2900, 2901, 2900] } }
      (fun t => decide (1900 < t.delta[3].toInt ∧ ∀ j : Fin 5, 3 < j → t.delta[j].toInt ≤ 1900)) = true := by decide

/-- Both clauses: an enabled press edge from mode 7 and from mode 6, and no edge. -/
theorem witness_ButtonPhaseAdvancesTheMode :
    after .phButton { running with btnEn := true, mode := 7 } (fun t => t.btnCur && !t.btnPrev) = true ∧
    after .phButton { running with btnEn := true, mode := 6 } (fun t => t.btnCur && !t.btnPrev) = true ∧
    after .phButton { running with btnEn := true, btnCur := true } (fun t => t.btnCur && t.btnPrev) = true := by decide

/-- A mode that changes. -/
theorem witness_ButtonNeverLandsOnZero :
    after .phButton { running with btnEn := true, mode := 255 } (fun t => t.mode != 255) = true := by decide

/-- An index PUBLISH leaves alone, at each end of what it writes. -/
theorem witness_PublishPhase : ([2, 4, 17, 18, 20] : List (Fin 36)).all (fun k =>
    decide (k.val ≠ 3 ∧ k.val ≠ 5 ∧ ¬(6 ≤ k.val ∧ k.val ≤ 16) ∧ k.val ≠ 19)) = true := by decide

/-- Modes 7 and 8, from a legal head. -/
theorem witness_RenderRunsTheModeRule :
    decode .mode (({ running with mode := 7 } : State).mode.setWidth 18) = .ok .mScanB ∧
    ({ running with mode := 7 } : State).mode.toNat ≤ 7 ∧ ({ running with mode := 7 } : State).HeadLegal ∧
    decode .mode (reservedTick.mode.setWidth 18) = .ok (.mReserved8_15 8) ∧ 8 ≤ reservedTick.mode.toNat :=
  ⟨by decide, by decide, running_inv.head, by decide, by decide⟩

theorem witness_ReservedModesAreRefused : Instr.mReserved128_255 ∈ reservedModes ∧
    8 ≤ ({ rig with mlat := 8 } : State).mlat.toNat ∧ 8 ≤ ({ rig with mlat := 255 } : State).mlat.toNat := by
  refine ⟨by simp [reservedModes], by decide, by decide⟩

/-- Modes 0, 1 and 7. -/
theorem witness_SnapshotPhase : rig.mlat.toNat ≤ 7 ∧ rig.mlat = 0 ∧ rig.busMask = false ∧
    running.mlat.toNat ≤ 7 ∧ running.mlat ≠ 0 ∧ ({ rig with mlat := 1 } : State).mlat ≠ 0 := by decide

theorem witness_TransmitPhase : rig.busMask = false ∧ rig.mlat = 0 ∧ running.busMask = false ∧
    1 ≤ running.mlat.toNat ∧ running.mlat.toNat ≤ 7 ∧ 1 ≤ ({ rig with mlat := 1 } : State).mlat.toNat := by decide

theorem witness_SymbolsAndTheirPulses : (∃ t, exec .symS1 rig = .next t) ∧ (∃ t, exec .symS0 rig = .next t) ∧
    ({ rig with wire := [.s1, .gap] } : State).wire = ({ rig with wire := [.s1] } : State).wire ++ [.gap] :=
  ⟨⟨_, rfl⟩, ⟨_, rfl⟩, rfl⟩

/-- The instructions the bits of a frame decode to. -/
theorem witness_FrameIsItsSymbolOperations :
    (frameBits rig.buf).map (fun b => decode .sym (if b then 1 else 0)) =
      (List.replicate 120 Instr.symS0).map Except.ok := by rfl

theorem witness_PaletteFrames : (Instr.mPalB, Config.paletteB) ∈
    [(Instr.mPalA, Config.paletteA), (.mPalB, Config.paletteB)] := by simp

/-- Legal heads at both ends, in each scanner mode. -/
theorem witness_ScannerDecaysAndRamps : (Instr.mScanR, 1) ∈ scanModes ∧ (Instr.mScanG, 0) ∈ scanModes ∧
    (Instr.mScanB, 2) ∈ scanModes ∧ rig.HeadLegal ∧
    ({ rig with pos := 4, dir := .backward } : State).HeadLegal := by
  refine ⟨by simp [scanModes], by simp [scanModes], by simp [scanModes], ⟨by decide, by decide, by decide⟩,
    ⟨by decide, by decide, by decide⟩⟩

/-- Both clauses at the threshold `255 - SSPEED`, and both directions. -/
theorem witness_ScannerAdvancesAndMoves :
    (({ rig with sspeed := 253, acc := 1 } : State).acc.toNat + 1) % 256 ≤ 255 - (253 : Byte).toNat ∧
    255 - (253 : Byte).toNat < (({ rig with sspeed := 253, acc := 2 } : State).acc.toNat + 1) % 256 ∧
    ({ rig with sspeed := 253, acc := 2 } : State).HeadLegal ∧ rig.dir = .forward ∧
    ({ rig with sspeed := 253, acc := 2, pos := 4, dir := .backward } : State).HeadLegal := by
  refine ⟨by decide, by decide, ⟨by decide, by decide, by decide⟩, rfl, ⟨by decide, by decide, by decide⟩⟩

/-- The three ways out of the strip. -/
theorem witness_ScannerStopsRatherThanClamp : 4 < ({ rig with pos := 5 } : State).pos.toNat ∧
    255 - (255 : Byte).toNat < (({ rig with pos := 4, sspeed := 255 } : State).acc.toNat + 1) % 256 ∧
    ({ rig with pos := 4, sspeed := 255 } : State).dir = .forward ∧
    ({ rig with pos := 0, dir := .backward, sspeed := 255 } : State).pos = 0 := by decide

/-- Each clause: the last step before the move, the slowest moving speed, and speed 0. -/
theorem witness_ScannerDwell : rig.HeadLegal ∧ rig.acc = 0 ∧ 255 < 256 - ({ rig with sspeed := 0 } : State).sspeed.toNat ∧
    1 ≤ ({ rig with sspeed := 1 } : State).sspeed.toNat ∧ rig.sspeed = 0 :=
  ⟨⟨by decide, by decide, by decide⟩, rfl, by decide, by decide, rfl⟩

/-- The step counts 1 and 7 are the ends of the second clause's range. -/
theorem witness_ScannerBounceIsEightMoves : (1 ≤ 1 ∧ 7 ≤ 7) ∧ ({ rig with sspeed := 255 } : State).HeadLegal ∧
    ({ rig with sspeed := 255 } : State).acc = 0 ∧ ({ rig with sspeed := 255 } : State).sspeed = 255 :=
  ⟨by decide, ⟨by decide, by decide, by decide⟩, rfl, rfl⟩

/-- Standalone and not. -/
theorem witness_BootStrapForcesStandalone :
    after .bootStrap { rig with env := { rig.env with strap := [true] } } (fun t => t.standalone) = true ∧
    after .bootStrap { rig with env := { rig.env with strap := [false] } } (fun t => !t.standalone) = true := by decide

theorem witness_BootSelfcheckBranches :
    after .bootSelfcheck { rig with env := { rig.env with busHigh := [true] } } (fun t => t.ok) = true ∧
    after .bootSelfcheck { rig with env := { rig.env with busHigh := [false] } } (fun t => !t.ok) = true := by decide

theorem witness_BootFallbackAndEnable : rig.busMask = false ∧ running.ok = true ∧ rig.ok = false := by decide

theorem witness_BootReachesTheTickLoop : State.reset.boot = some .init := rfl

/-- A step that completes, from a state that satisfies the invariant. -/
theorem witness_StepKeepsTheInvariant : running.Inv ∧ ∃ t, step running = .next t :=
  ⟨running_inv, by rw [step_tick_cons (s := running) (rest := List.replicate 6 .tick) rfl rfl]; exact ⟨_, rfl⟩⟩

/-- Both outcomes: the state above steps, and a state in phase RENDER of mode 8 satisfies the invariant too. -/
theorem witness_StepStopsOnlyOnAReservedMode : reservedTick.Inv ∧ reservedTick.boot = none ∧ reservedTick.ph = 5 ∧
    8 ≤ reservedTick.mode.toNat := by
  obtain ⟨a, b, c, d, e, f, g, h, i, j, k, l, m, _⟩ := running_inv
  exact ⟨⟨a, b, c, d, e, f, g, h, i, j, k, l, m, fun h => by rcases h with h | h <;> exact absurd h (by decide)⟩,
    rfl, rfl, by decide⟩

theorem witness_BaselineWrittenOnlyByCalibrate :
    after .bootCalibrate { rig with env := { rig.env with touch := [1, 2, 3, 4, 5] } } (fun t => t.base != rig.base)
      = true := by decide

/-- A change of each register, by RENDER in the mode that changes it. -/
theorem witness_RendererRegisterWriters : Instr.phRender ≠ .bootInit ∧
    after .phRender { rig with mode := 2 } (fun t => t.hue != rig.hue && t.mlat != rig.mlat) = true ∧
    after .phRender { rig with mode := 5 } (fun t => t.acc != rig.acc) = true ∧
    after .phRender { rig with mode := 7, sspeed := 255 } (fun t => t.pos != rig.pos) = true ∧
    after .phRender { rig with mode := 1 } (fun t => t.buf != rig.buf) = true := by decide

/-- A change of each register. -/
theorem witness_SensorRegisterWriters :
    after .phTouch { rig with env := { rig.env with touch := [1000, 3000, 1000, 1000, 1000] } }
      (fun t => t.delta != rig.delta && t.level != rig.level) = true ∧
    after .phButton { rig with env := { rig.env with button := [true] } } (fun t => t.btnCur != rig.btnCur) = true ∧
    after .phGpio { rig with env := { rig.env with gpio := [5] } } (fun t => t.gpioIn != rig.gpioIn) = true ∧
    after .bootEnable { rig with ok := true, env := { rig.env with elapsed := [7] } }
      (fun t => t.lastTick != rig.lastTick && t.busEn != rig.busEn) = true ∧
    after .bootStrap { rig with env := { rig.env with strap := [true] } } (fun t => t.standalone != rig.standalone)
      = true := by decide

/-- A change of each register. -/
theorem witness_HostOwnedRegisterWriters :
    after (.wrRspeed 1) rig (fun t => t.rspeed != rig.rspeed) = true ∧
    after (.wrSspeed 1) rig (fun t => t.sspeed != rig.sspeed) = true ∧
    after (.wrGpiomode 1) rig (fun t => t.gpioMode != rig.gpioMode) = true ∧
    after (.wrGpioout 1) rig (fun t => t.gpioOut != rig.gpioOut) = true ∧
    after (.wrBtnen 1) rig (fun t => t.btnEn != rig.btnEn) = true := by decide

/-- The three ways. -/
theorem witness_ModeChangesInThreeWays :
    after .bootStrap { rig with env := { rig.env with strap := [true] } } (fun t => t.mode != rig.mode) = true ∧
    after (.wrMode 9) rig (fun t => t.mode != rig.mode) = true ∧
    after .phButton { rig with btnEn := true, env := { rig.env with button := [true] } } (fun t => t.mode != rig.mode)
      = true := by decide

/-- An operation of each clause. -/
theorem witness_WireOnlyGrows : (∃ t, exec .symS0 rig = .next t) ∧ (∃ t, exec .symS1 rig = .next t) ∧
    (∃ t, exec .phTransmit rig = .next t) ∧ (∃ t, exec .bootFallback rig = .next t) ∧
    (∃ t, exec .mPass rig = .next t) ∧ Instr.mPass ∉ [.symS0, .symS1, .phTransmit, .bootFallback] ∧
    Instr.mPass ≠ .bootInit :=
  ⟨⟨_, rfl⟩, ⟨_, rfl⟩, ⟨_, rfl⟩, ⟨_, rfl⟩, ⟨_, rfl⟩, by decide, by decide⟩

/-- A bus operation and a phase. -/
theorem witness_PhasesFollowInOrder : (rig.withFetchWord 24 0x10501).boot = none ∧
    (∃ t, step (rig.withFetchWord 24 0x10501) = .next t) ∧ running.boot = none ∧ ∃ t, step running = .next t :=
  ⟨rfl, ⟨_, rfl⟩, rfl, witness_StepKeepsTheInvariant.2⟩

theorem witness_DisabledBusIsNeverServed : rig.boot = none ∧ rig.busEn = false ∧ ∃ t, stepTimes 1 rig = .next t := by
  refine ⟨rfl, rfl, ?_⟩
  obtain ⟨t, ht⟩ : ∃ t, step rig = .next t := by
    rw [step_tick (s := rig) rfl (.inr rfl)]
    exact ⟨_, rfl⟩
  exact ⟨t, by rw [stepTimes_succ ht]; rfl⟩

theorem witness_TickSendsOneFrame : running.Inv ∧ running.boot = none ∧ running.ph = 1 ∧ running.mode.toNat ≤ 7 ∧
    running.env.turns = List.replicate 7 .tick ++ [] := ⟨running_inv, rfl, rfl, by decide, rfl⟩

theorem witness_PassthroughRoundTrip : rig.mode = 0 ∧ rig.mlat = 0 := ⟨rfl, rfl⟩

end Sys2Proof.Tests
end

section
/-! The mapped reads are the read table of the decoder, row by row (R67, R95). -/

namespace Sys2Proof.Machine

open Sys2Proof

/-- The read of a mapped index is what the decoder gives for that index (R61, R67). -/
theorem mappedRead_eq_decodeRead {p : Instr × Fin 36} (hp : p ∈ mappedReads) :
    p.1 = decodeRead (BitVec.ofNat 8 p.2.val) := by
  have rows : mappedReads = (List.finRange 36).map fun k => (decodeRead (BitVec.ofNat 8 k.val), k) := by decide
  rw [rows, List.mem_map] at hp
  obtain ⟨k, -, rfl⟩ := hp
  rfl

/-- The word of a read is its index times 256, the data byte being 0 (R67, R95). -/
theorem rdWord_ofNat {n : Nat} (h : n < 256) : rdWord (BitVec.ofNat 8 n) = BitVec.ofNat 18 (256 * n) := by
  apply BitVec.eq_of_toNat_eq
  rw [rdWord, busWord_toNat]
  simp only [Bool.toNat_false, BitVec.ofNat_eq_ofNat, BitVec.toNat_ofNat]
  omega

/-- What the decoder gives for a mapped index reads that register (R95). -/
theorem exec_decodeRead (k : Fin 36) (s : State) :
    exec (decodeRead (BitVec.ofNat 8 k.val)) s = .next (s.hostRead k) := by
  fin_cases k <;> rfl

/-- Settles O6: a mapped read is the decoder's read of its index, whose word is 256 times the index and whose
meaning is to return that register. -/
theorem mappedReadsReturnTheRegister : Obligations.MappedReadsReturnTheRegister := by
  unfold Obligations.MappedReadsReturnTheRegister
  intro p hp
  have hread := mappedRead_eq_decodeRead hp
  have hindex : p.2.val < 256 := by omega
  constructor
  · obtain ⟨-, -, hword⟩ := decodeRead_spec (BitVec.ofNat 8 p.2.val)
    rw [hread, hword, rdWord_ofNat hindex]
  · intro s
    rw [hread, exec_decodeRead]
    rfl

end Sys2Proof.Machine
end

section
/-! The scanner step byte by byte (R128, R129) and the two palette modes (R124, R125). -/

namespace Sys2Proof.Machine

open Sys2Proof

/-! ### The scanner -/

/-- Every scanner step, moving or not, writes the decayed and ramped frame of the position it leaves. -/
theorem scanStep_buf (c : Nat) (s : State) :
    (s.scanStep c).buf = scanFrame c (s.scanStep c).pos s.buf := by
  obtain ⟨p, d, a, hstep⟩ := scanStep_eq_scanned c s
  rw [hstep, State.scanned_buf, State.scanned_pos]

/-- Settles O37: from a legal head the step completes, and its frame is the scanner frame at the position it leaves,
whose bytes the saturating arithmetic gives. -/
theorem scannerDecaysAndRamps : Obligations.ScannerDecaysAndRamps := by
  unfold Obligations.ScannerDecaysAndRamps
  intro p hp s hlegal
  refine ⟨s.scanStep p.2, ?_, fun k => ?_⟩
  · rw [scanModes_exec hp, scan_legal p.2 s hlegal]
  · rw [scanStep_buf]
    exact scanFrame_toNat p.2 _ s.buf k.val k.isLt

/-! ### The palettes -/

/-- A palette mode replaces the frame by its palette's colours, and nothing else (R124, R125). -/
theorem exec_paletteMode {p : Instr × Vector Rgb Config.nLed}
    (hp : p ∈ [(Instr.mPalA, Config.paletteA), (.mPalB, Config.paletteB)]) (s : State) :
    exec p.1 s = .next { s with buf := grbFrame fun i => p.2[i] } := by
  simp only [List.mem_cons, List.not_mem_nil, or_false] at hp
  rcases hp with rfl | rfl
  · rfl
  · rfl

/-- The neighbour of a palette differs from it, in the red byte of the first triple. -/
theorem anotherPalette_ne (pal : Vector Rgb Config.nLed) : Config.anotherPalette pal ≠ pal := by
  intro heq
  have hred : (Config.anotherPalette pal)[0].r = pal[0].r := by rw [heq]
  simp [Config.anotherPalette] at hred

/-- The one constraint on the palettes, met whatever the opaque candidate is (R125). -/
theorem paletteB_ne_paletteA : Config.paletteB ≠ Config.paletteA := by
  unfold Config.paletteB
  split
  case isTrue => exact anotherPalette_ne Config.paletteA
  case isFalse hne => exact hne

/-- Settles O36: both modes put their palette in the frame, LED by LED in the order green, red, blue. -/
theorem paletteFrames : Obligations.PaletteFrames := by
  unfold Obligations.PaletteFrames
  refine ⟨fun p hp s => ⟨_, exec_paletteMode hp s, fun i => ?_, rfl⟩, paletteB_ne_paletteA, rfl, rfl⟩
  dsimp only
  exact ⟨grbFrame_green _ i, grbFrame_red _ i, grbFrame_blue _ i⟩

end Sys2Proof.Machine
end

section
/-! Decoding and encoding: the rows of a range of indices or modes, the round trip, every word that fits its format,
and the words of the control surface (R61, R64, R66, R67, R68, R72, R76). -/

namespace Sys2Proof

/-! ### The rows that stand for a range, by the bounds of the range (R72, R94, R108) -/

theorem decodeWrite_of_ge {idx : Byte} (v : Byte) (h : 36 ≤ idx.toNat) :
    decodeWrite idx v =
      if idx.toNat < 40 then .wrUnmapped36_39 idx v
      else if idx.toNat < 48 then .wrUnmapped40_47 idx v
      else if idx.toNat < 64 then .wrUnmapped48_63 idx v
      else if idx.toNat < 128 then .wrUnmapped64_127 idx v
      else .wrUnmapped128_255 idx v := by
  unfold decodeWrite
  split
  case h_37 => rfl
  all_goals omega

theorem decodeRead_of_ge {idx : Byte} (h : 36 ≤ idx.toNat) :
    decodeRead idx =
      if idx.toNat < 40 then .rdUnmapped36_39 idx
      else if idx.toNat < 48 then .rdUnmapped40_47 idx
      else if idx.toNat < 64 then .rdUnmapped48_63 idx
      else if idx.toNat < 128 then .rdUnmapped64_127 idx
      else .rdUnmapped128_255 idx := by
  unfold decodeRead
  split
  case h_37 => rfl
  all_goals omega

theorem decodeMode_of_ge {m : Byte} (h : 8 ≤ m.toNat) :
    decodeMode m =
      if m.toNat < 16 then .mReserved8_15 m
      else if m.toNat < 32 then .mReserved16_31 m
      else if m.toNat < 64 then .mReserved32_63 m
      else if m.toNat < 128 then .mReserved64_127 m
      else .mReserved128_255 m := by
  unfold decodeMode
  split
  case h_9 => rfl
  all_goals omega

/-! ### Words of each format -/

/-- Every 18-bit word fits the format `BUSOP` (R76). -/
theorem decode_busop (w : BusWord) : decode .busop w = .ok (decodeBusop w) := if_pos w.isLt

@[simp] theorem decodeBusop_identityRead (off v : Byte) : decodeBusop (busWord true false off v) = .idRd off := by
  simp [decodeBusop]

@[simp] theorem decodeBusop_identityWrite (off v : Byte) :
    decodeBusop (busWord true true off v) = .idWr off v := by
  simp [decodeBusop]

/-- A word narrower than its 18 bits is its low part again. -/
theorem setWidth_setWidth_of_lt {n : Nat} {w : BusWord} (h : w.toNat < 2 ^ n) :
    (w.setWidth n).setWidth 18 = w := by
  apply BitVec.eq_of_toNat_eq
  rw [BitVec.toNat_setWidth, BitVec.toNat_setWidth, Nat.mod_eq_of_lt h, Nat.mod_eq_of_lt w.isLt]

end Sys2Proof

namespace Sys2Proof.Machine

open Sys2Proof

/-- The significant bits of a bus word: the data byte of a read is 0 (R67). -/
theorem significantBits_busWord (sp wr : Bool) (idx v : Byte) :
    significantBits .busop (busWord sp wr idx v) = busWord sp wr idx (if wr then v else 0) := by
  cases wr
  case true => simp [significantBits]
  case false =>
    have hv := v.isLt
    have hi := idx.isLt
    have hs := Bool.toNat_le sp
    simp only [significantBits, busWord_isWrite, and_self, if_true, Bool.false_eq_true, if_false]
    apply BitVec.eq_of_toNat_eq
    simp only [BitVec.toNat_shiftLeft, BitVec.toNat_ushiftRight, Nat.shiftRight_eq_div_pow, Nat.shiftLeft_eq,
      busWord_toNat, BitVec.ofNat_eq_ofNat, BitVec.toNat_ofNat, Bool.toNat_false]
    omega

/-- Settles O1: a row of its own is one line of its decoding table; a row of a range lies in the block that its
operand is well-formed for. -/
theorem decodeEncodeRoundTrip : Obligations.DecodeEncodeRoundTrip := by
  unfold Obligations.DecodeEncodeRoundTrip
  intro i hwf
  cases i
  case wrUnmapped36_39 idx v | wrUnmapped40_47 idx v | wrUnmapped48_63 idx v | wrUnmapped64_127 idx v |
      wrUnmapped128_255 idx v =>
    obtain ⟨hlo, hhi⟩ := inRange_iff.1 hwf
    rw [Instr.format, encode, decode_wrWord, decodeWrite_of_ge v (by omega)]
    grind
  case rdUnmapped36_39 idx | rdUnmapped40_47 idx | rdUnmapped48_63 idx | rdUnmapped64_127 idx |
      rdUnmapped128_255 idx =>
    obtain ⟨hlo, hhi⟩ := inRange_iff.1 hwf
    rw [Instr.format, encode, decode_rdWord, decodeRead_of_ge (by omega)]
    grind
  case mReserved8_15 m | mReserved16_31 m | mReserved32_63 m | mReserved64_127 m | mReserved128_255 m =>
    obtain ⟨hlo, hhi⟩ := inRange_iff.1 hwf
    rw [Instr.format, encode, decode_modeWord, decodeMode_of_ge (by omega)]
    grind
  case idRd off | idWr off v =>
    rw [Instr.format, encode, decode_busop]
    simp
  case wrFwlo v | wrFwhi v | wrGpiomode v | wrGpioin v | wrGpioout v | wrMode v | wrTdelta0L v | wrTdelta0H v |
      wrTdelta1L v | wrTdelta1H v | wrTdelta2L v | wrTdelta2H v | wrTdelta3L v | wrTdelta3H v | wrTdelta4L v |
      wrTdelta4H v | wrLevel v | wrRspeed v | wrSspeed v | wrBtnstate v | wrBtnen v | wrLed0G v | wrLed0R v |
      wrLed0B v | wrLed1G v | wrLed1R v | wrLed1B v | wrLed2G v | wrLed2R v | wrLed2B v | wrLed3G v | wrLed3R v |
      wrLed3B v | wrLed4G v | wrLed4R v | wrLed4B v =>
    exact decode_wrWord _ v
  all_goals rfl

/-- A word of a total format is a well-formed instruction of that format, with the word's significant bits as its
encoding. -/
theorem decode_spec {f : Format} {w : BusWord} (hf : f ≠ .boot) (hw : w.toNat < 2 ^ f.width) :
    ∃ i : Instr, decode f w = .ok i ∧ i.wf = true ∧ i.format = f ∧ encode i = significantBits f w := by
  cases f with
  | boot => exact absurd rfl hf
  | busop =>
    refine ⟨_, decode_busop w, ?_⟩
    rw [← busWord_eta w, significantBits_busWord]
    cases BusWord.isIdentity w with
    | false =>
      cases BusWord.isWrite w with
      | false => simpa [decodeBusop, rdWord] using decodeRead_spec (BusWord.index w)
      | true => simpa [decodeBusop, wrWord] using decodeWrite_spec (BusWord.index w) (BusWord.data w)
    | true =>
      cases BusWord.isWrite w with
      | false => simp [Instr.wf, Instr.format, encode]
      | true => simp [Instr.wf, Instr.format, encode]
  | mode =>
    obtain ⟨hwf, hformat, hencode⟩ := decodeMode_spec (w.setWidth 8)
    exact ⟨_, if_pos hw, hwf, hformat, hencode.trans (setWidth_setWidth_of_lt hw)⟩
  | phase =>
    obtain ⟨hwf, hformat, hencode⟩ := decodePhase_spec (w.setWidth 3)
    exact ⟨_, if_pos hw, hwf, hformat, hencode.trans (setWidth_setWidth_of_lt hw)⟩
  | sym =>
    have hlt : w.toNat < 2 := hw
    have hbit : w = 0 ∨ w = 1 := by bv_omega
    rcases hbit with rfl | rfl
    · exact ⟨.symS0, rfl, rfl, rfl, rfl⟩
    · exact ⟨.symS1, rfl, rfl, rfl, rfl⟩

/-- Settles O2: the instruction is the decoder's, and by the round trip another one with the same word would be
decoded from it too. -/
theorem everyWordIsExactlyOneInstruction : Obligations.EveryWordIsExactlyOneInstruction := by
  unfold Obligations.EveryWordIsExactlyOneInstruction
  intro f w hf hw
  obtain ⟨i, hdecode, hwf, hformat, hencode⟩ := decode_spec hf hw
  refine ⟨i, hdecode, hwf, hformat, hencode, fun j hjwf hjformat hjencode => ?_⟩
  have hi := decodeEncodeRoundTrip i hwf
  have hj := decodeEncodeRoundTrip j hjwf
  rw [hformat, hencode] at hi
  rw [hjformat, hjencode, hi] at hj
  exact (Except.ok.inj hj).symm

/-- Settles O3: each word is computed. -/
theorem wordsOfTheSpecDecode : Obligations.WordsOfTheSpecDecode := by
  unfold Obligations.WordsOfTheSpecDecode
  decide

/-- The write of a mapped index is what the decoder gives for that index (R61, R67). -/
theorem mappedWrite_eq_decodeWrite {p : (Byte → Instr) × Fin 36}
    (hp : p ∈ storingWrites ++ readOnlyWrites ++ ledWrites) (v : Byte) :
    p.1 v = decodeWrite (BitVec.ofNat 8 p.2.val) v := by
  have rows : ∀ q ∈ storingWrites ++ readOnlyWrites ++ ledWrites,
      q.1 v = decodeWrite (BitVec.ofNat 8 q.2.val) v := by
    simp only [storingWrites, readOnlyWrites, ledWrites, List.cons_append, List.nil_append, List.forall_mem_cons,
      List.not_mem_nil, false_implies, implies_true, and_true]
    and_intros
    all_goals rfl
  exact rows p hp

/-- The word of a write is its index times 256 and the data byte, above the write bit (R67). -/
theorem wrWord_ofNat {n : Nat} (h : n < 256) (v : Byte) :
    wrWord (BitVec.ofNat 8 n) v = BitVec.ofNat 18 (0x10000 + 256 * n + v.toNat) := by
  have hv := v.isLt
  apply BitVec.eq_of_toNat_eq
  rw [wrWord, busWord_toNat]
  simp only [Bool.toNat_false, Bool.toNat_true, BitVec.toNat_ofNat]
  omega

/-- Settles O4: both tables are the decoder's, row by row, and the words are sums of their fields. -/
theorem controlSurfaceWords : Obligations.ControlSurfaceWords := by
  unfold Obligations.ControlSurfaceWords
  refine ⟨fun p hp => (mappedReadsReturnTheRegister p hp).1, fun p hp v => ?_⟩
  obtain ⟨-, -, hword⟩ := decodeWrite_spec (BitVec.ofNat 8 p.2.val) v
  rw [mappedWrite_eq_decodeWrite hp, hword, wrWord_ofNat (by omega)]

end Sys2Proof.Machine
end

section
/-! What an operation may write: one inversion of `exec`, from which the writers of each register follow. -/

namespace Sys2Proof.Machine

open Sys2Proof

/-! ### The effects -/

/-- What the rule of a render mode may write (R121 to R132). -/
inductive ModeEffect (s : State) : Instr → State → Prop where
  | pass : ModeEffect s .mPass s
  | social (b : Frame) : ModeEffect s .mSocial { s with buf := b }
  | rainbow (b : Frame) (h : Byte) : ModeEffect s .mRainbow { s with buf := b, hue := h }
  | palette (i : Instr) (hi : i = .mPalA ∨ i = .mPalB) (b : Frame) : ModeEffect s i { s with buf := b }
  | scan (i : Instr) (hi : i ∈ [.mScanR, .mScanG, .mScanB]) (b : Frame) (p : BitVec 3) (d : Dir) (a : Byte) :
      ModeEffect s i { s with buf := b, pos := p, dir := d, acc := a }

/-- What an operation may write, with the values where a later statement names them. -/
inductive Effect (s : State) : Instr → State → Prop where
  | bus (i : Instr) (hi : i.format = .busop) (r : RegFile) (q : List Byte) (e : Env) :
      Effect s i { s with rf := r, replies := q, env := e }
  | wrGpiomode (v : Byte) (r : RegFile) : Effect s (.wrGpiomode v) { s with rf := r, gpioMode := v.setWidth 4 }
  | wrGpioout (v : Byte) (r : RegFile) : Effect s (.wrGpioout v) { s with rf := r, gpioOut := v.setWidth 4 }
  | wrMode (v : Byte) (r : RegFile) : Effect s (.wrMode v) { s with rf := r, mode := v }
  | wrLevel (v : Byte) (r : RegFile) : Effect s (.wrLevel v) { s with rf := r, level := v }
  | wrRspeed (v : Byte) (r : RegFile) : Effect s (.wrRspeed v) { s with rf := r, rspeed := v }
  | wrSspeed (v : Byte) (r : RegFile) : Effect s (.wrSspeed v) { s with rf := r, sspeed := v }
  | wrBtnen (v : Byte) (r : RegFile) : Effect s (.wrBtnen v) { s with rf := r, btnEn := enabledBy v }
  | mode (i : Instr) (t : State) (h : ModeEffect s i t) : Effect s i t
  | wait (n l : Ticks) (p : BitVec 3) (e : Env) (he : e.hostOps = s.env.hostOps) :
      Effect s .phWait { s with now := n, lastTick := l, ph := p, env := e }
  | gpio (g : BitVec 4) (e : Env) (he : e.hostOps = s.env.hostOps) :
      Effect s .phGpio { s with gpioIn := g, ph := 2, env := e }
  | touch (d : PerChannel Count) (l : Byte) (e : Env) (he : e.hostOps = s.env.hostOps) :
      Effect s .phTouch { s with delta := d, level := l, ph := 3, env := e }
  | button (b : Bool) (e : Env) (he : e.hostOps = s.env.hostOps) :
      Effect s .phButton { s.buttoned b with env := e }
  | publish (r : RegFile) : Effect s .phPublish { s with rf := r, busMask := false, ph := 5 }
  | render (t : State) (h : ModeEffect { s with mlat := s.mode } (decodeMode s.mode) t) :
      Effect s .phRender { t with ph := 6 }
  | snapshot (r : RegFile) (m : Bool) : Effect s .phSnapshot { s with rf := r, busMask := m, ph := 7 }
  | transmit (f : Frame) :
      Effect s .phTransmit { s with wire := s.wire ++ frameSymbols f, busMask := false, ph := 0 }
  | symS0 : Effect s .symS0 { s with wire := s.wire ++ [.s0] }
  | symS1 : Effect s .symS1 { s with wire := s.wire ++ [.s1] }
  | init (t : State) : Effect s .bootInit t
  | strap (x : Bool) (e : Env) (r : RegFile) (m : Byte) (b : Bool) (hb : b = true ∨ b = s.btnEn) :
      Effect s .bootStrap
        { s with standalone := x, env := e, boot := some .calibrate, rf := r, mode := m, btnEn := b }
  | calibrate (c : PerChannel Count) (e : Env) :
      Effect s .bootCalibrate { s with base := c, env := e, boot := some .selfcheck }
  | selfcheck (ok : Bool) (e : Env) (b : Option BootStep) :
      Effect s .bootSelfcheck { s with ok := ok, env := e, boot := b }
  | fallback (n : Ticks) (f : Frame) :
      Effect s .bootFallback
        { s with wire := s.wire ++ frameSymbols f, now := n, busMask := false, boot := some .enable }
  | enable (n : Ticks) (e : Env) (b : Bool) :
      Effect s .bootEnable { s with now := n, lastTick := n, env := e, busEn := b, ph := 0, boot := none }

/-! ### Every operation has its effect -/

/-- A write of a colour byte stores it or is ignored (R93). -/
theorem hostWriteLed_writes {i : Instr} (hi : i.format = .busop) (k : Fin 36) (v : Byte) (s : State) :
    Effect s i (s.hostWriteLed k v) := by
  rw [State.hostWriteLed_eq]
  split
  · exact .bus i hi _ _ _
  · exact .bus i hi s.rf s.replies s.env

/-- A bus operation is a write of one of the seven runtime registers, or touches none of them. -/
theorem exec_busop_writes {i : Instr} {s t : State} (hf : i.format = .busop) (h : exec i s = .next t) :
    Effect s i t := by
  cases i <;> simp only [Instr.format, reduceCtorEq] at hf
  case wrGpiomode v => cases h; exact .wrGpiomode v _
  case wrGpioout v => cases h; exact .wrGpioout v _
  case wrMode v => cases h; exact .wrMode v _
  case wrLevel v => cases h; exact .wrLevel v _
  case wrRspeed v => cases h; exact .wrRspeed v _
  case wrSspeed v => cases h; exact .wrSspeed v _
  case wrBtnen v => cases h; exact .wrBtnen v _
  case wrLed0G v | wrLed0R v | wrLed0B v | wrLed1G v | wrLed1R v | wrLed1B v | wrLed2G v | wrLed2R v | wrLed2B v |
      wrLed3G v | wrLed3R v | wrLed3B v | wrLed4G v | wrLed4R v | wrLed4B v =>
    cases h; exact hostWriteLed_writes rfl _ v s
  case idRd off =>
    cases h
    split
    · exact .bus _ rfl s.rf _ s.env
    · exact .bus _ rfl s.rf _ _
  all_goals cases h; exact .bus _ rfl _ _ _

theorem scan_effect {c : Nat} {i : Instr} (hi : i ∈ [.mScanR, .mScanG, .mScanB]) {s t : State}
    (h : scan c s = .next t) : ModeEffect s i t := by
  obtain ⟨p, d, a, rfl⟩ := scan_cases h
  exact .scan i hi _ p d a

theorem exec_mode_effect {i : Instr} {s t : State} (hf : i.format = .mode) (h : exec i s = .next t) :
    ModeEffect s i t := by
  cases i <;> simp only [Instr.format, reduceCtorEq] at hf
  case mPass => cases h; exact .pass
  case mSocial => cases h; exact .social _
  case mRainbow => cases h; exact .rainbow _ _
  case mPalA => cases h; exact .palette _ (.inl rfl) _
  case mPalB => cases h; exact .palette _ (.inr rfl) _
  case mScanR | mScanG | mScanB => exact scan_effect (by simp) h
  all_goals cases h

/-- Everything a completing operation can do. -/
theorem exec_effect {i : Instr} {s t : State} (h : exec i s = .next t) : Effect s i t := by
  cases hf : i.format with
  | busop => exact exec_busop_writes hf h
  | mode => exact .mode i t (exec_mode_effect hf h)
  | phase =>
    cases i <;> simp only [Instr.format, reduceCtorEq] at hf
    case phWait =>
      have henv : s.env.takeElapsed.2.hostOps = s.env.hostOps := by rw [Env.takeElapsed_frame]
      cases h
      split
      · exact .wait _ _ _ _ henv
      · exact .wait s.readNow.now s.lastTick s.ph _ henv
    case phGpio => cases h; exact .gpio _ _ (by rw [Env.takeGpio_frame])
    case phTouch => cases h; exact .touch _ _ _ (by rw [Env.takeFive_frame])
    case phButton => cases h; exact .button _ _ (by rw [Env.takeButton_frame])
    case phPublish => cases h; exact .publish _
    case phRender =>
      obtain ⟨u, hu, rfl⟩ := execPhRender_next h
      rw [renderMode_eq] at hu
      obtain ⟨-, hformat, -⟩ := decodeMode_spec s.mode
      exact .render u (exec_mode_effect hformat hu)
    case phSnapshot =>
      obtain ⟨-, ht⟩ := execPhSnapshot_frame h
      rw [ht]
      exact .snapshot _ _
    case phTransmit =>
      obtain ⟨f, rfl⟩ := execPhTransmit_frame h
      exact .transmit f
  | sym =>
    cases i <;> simp only [Instr.format, reduceCtorEq] at hf
    · cases h; exact .symS0
    · cases h; exact .symS1
  | boot =>
    cases i <;> simp only [Instr.format, reduceCtorEq] at hf
    case bootInit => exact .init t
    case bootStrap =>
      have h' : execBootStrap s = .next t := h
      rw [execBootStrap_eq] at h'
      cases h'
      exact .strap _ _ _ _ _ (by split <;> simp)
    case bootCalibrate => cases h; exact .calibrate _ _
    case bootSelfcheck => cases h; exact .selfcheck _ _ _
    case bootFallback =>
      have h' : execBootFallback s = .next t := h
      rw [execBootFallback_eq] at h'
      cases h'
      exact .fallback _ _
    case bootEnable => cases h; exact .enable _ _ _

/-! ### What the rule of a mode writes -/

/-- A mode rule writes `BUF`, `HUE`, `POS`, `DIR` and `ACC` at most. -/
theorem ModeEffect.frame {s t : State} {i : Instr} (h : ModeEffect s i t) :
    t = { s with buf := t.buf, hue := t.hue, pos := t.pos, dir := t.dir, acc := t.acc } := by
  cases h <;> rfl

theorem ModeEffect.format {s t : State} {i : Instr} (h : ModeEffect s i t) : i.format = .mode := by
  cases h
  case palette hi => rcases hi with rfl | rfl <;> rfl
  case scan hi =>
    simp only [List.mem_cons, List.not_mem_nil, or_false] at hi
    rcases hi with rfl | rfl | rfl <;> rfl
  all_goals rfl

theorem ModeEffect.hue {s t : State} {i : Instr} (h : ModeEffect s i t) (hne : t.hue ≠ s.hue) :
    i = .mRainbow := by
  cases h
  case rainbow => rfl
  all_goals exact absurd rfl hne

theorem ModeEffect.head {s t : State} {i : Instr} (h : ModeEffect s i t)
    (hne : t.pos ≠ s.pos ∨ t.dir ≠ s.dir ∨ t.acc ≠ s.acc) : i ∈ [.mScanR, .mScanG, .mScanB] := by
  cases h
  case scan hi => exact hi
  all_goals simp at hne

theorem ModeEffect.buf {s t : State} {i : Instr} (h : ModeEffect s i t) (hne : t.buf ≠ s.buf) :
    i ∈ [.mSocial, .mRainbow, .mPalA, .mPalB, .mScanR, .mScanG, .mScanB] := by
  cases h
  case pass => exact absurd rfl hne
  case palette hi => rcases hi with rfl | rfl <;> simp
  case scan hi => exact List.mem_append_right [.mSocial, .mRainbow, .mPalA, .mPalB] hi
  all_goals simp

/-- The mode byte of an instruction that a mode byte decodes to is its word (R64). -/
theorem toNat_of_decodeMode {m : Byte} {i : Instr} (h : decodeMode m = i) : m.toNat = (encode i).toNat := by
  obtain ⟨-, -, hencode⟩ := decodeMode_spec m
  rw [← h, hencode, BitVec.toNat_setWidth, Nat.mod_eq_of_lt (by omega)]

theorem decodeMode_scan {m : Byte} (h : decodeMode m ∈ [.mScanR, .mScanG, .mScanB]) :
    5 ≤ m.toNat ∧ m.toNat ≤ 7 := by
  simp only [List.mem_cons, List.not_mem_nil, or_false] at h
  rcases h with h | h | h <;> rw [toNat_of_decodeMode h] <;> decide

theorem decodeMode_drawing {m : Byte}
    (h : decodeMode m ∈ [.mSocial, .mRainbow, .mPalA, .mPalB, .mScanR, .mScanG, .mScanB]) :
    1 ≤ m.toNat ∧ m.toNat ≤ 7 := by
  simp only [List.mem_cons, List.not_mem_nil, or_false] at h
  rcases h with h | h | h | h | h | h | h <;> rw [toNat_of_decodeMode h] <;> decide

/-! ### The writers of each register -/

/-- Settles O51: of the effects only that of calibration reaches `BASE`; INIT keeps it. -/
theorem baselineWrittenOnlyByCalibrate : Obligations.BaselineWrittenOnlyByCalibrate := by
  unfold Obligations.BaselineWrittenOnlyByCalibrate
  intro i s t h hne
  cases exec_effect h
  case calibrate => rfl
  case init => cases h; exact absurd rfl hne
  case mode hm => rw [hm.frame] at hne; exact absurd rfl hne
  case render hm => rw [hm.frame] at hne; exact absurd rfl hne
  all_goals exact absurd rfl hne

/-- Settles O52: a mode rule writes the registers of its own mode, RENDER those of the mode it dispatches on, and no
other effect reaches them. -/
theorem rendererRegisterWriters : Obligations.RendererRegisterWriters := by
  unfold Obligations.RendererRegisterWriters
  intro i s t h hi
  cases exec_effect h
  case init => exact absurd rfl hi
  case mode hm =>
    exact ⟨fun hne => .inl (hm.hue hne), fun hne => .inl (hm.head hne), fun hne => .inl (hm.buf hne),
      fun hne => absurd (by rw [hm.frame]) hne⟩
  case render u hm =>
    exact ⟨fun hne => .inr ⟨rfl, BitVec.eq_of_toNat_eq (toNat_of_decodeMode (hm.hue hne))⟩,
      fun hne => .inr ⟨rfl, decodeMode_scan (hm.head hne)⟩,
      fun hne => .inr ⟨rfl, decodeMode_drawing (hm.buf hne)⟩, fun _ => rfl⟩
  all_goals exact ⟨fun hne => absurd rfl hne, fun hne => by simp [State.buttoned] at hne,
    fun hne => absurd rfl hne, fun hne => absurd rfl hne⟩

/-- Settles O53: each of these registers stands in the effect of its writers alone. -/
theorem sensorRegisterWriters : Obligations.SensorRegisterWriters := by
  unfold Obligations.SensorRegisterWriters
  intro i s t h hi
  cases exec_effect h
  case init => exact absurd rfl hi
  case mode hm => rw [hm.frame]; simp
  case render hm => rw [hm.frame]; simp
  all_goals simp [State.buttoned]

/-- The lower four bits of a byte, as the write of a GPIO register takes them (R83, R85). -/
theorem lowNibble_eq (v : Byte) : v.setWidth 4 = v.extractLsb' 0 4 := rfl

/-- Settles O54: each of these registers stands in the effect of the write of its own index alone, and the button
enable in that of STRAP too. -/
theorem hostOwnedRegisterWriters : Obligations.HostOwnedRegisterWriters := by
  unfold Obligations.HostOwnedRegisterWriters
  intro i s t h hi
  cases exec_effect h
  case init => exact absurd rfl hi
  case mode hm => rw [hm.frame]; simp
  case render hm => rw [hm.frame]; simp
  case wrGpiomode v r => simpa using fun _ => lowNibble_eq v
  case wrGpioout v r => simpa using fun _ => lowNibble_eq v
  case wrBtnen v r => simp [enabledBy_eq]
  case strap hb => rcases hb with rfl | rfl <;> simp
  all_goals simp [State.buttoned]

theorem pressEdge_iff {prev cur : Bool} : pressEdge prev cur = true ↔ cur = true ∧ prev = false := by
  simp [pressEdge]

/-- The mode after phase BUTTON: advanced on an enabled press edge, else as it was (R142). -/
theorem buttoned_mode (b : Bool) (s : State) : (s.buttoned b).mode =
    if b = true ∧ s.btnCur = false ∧ s.btnEn = true then advanceMode s.mode else s.mode := by
  simp only [State.buttoned, Bool.and_eq_true, pressEdge_iff, and_assoc]

/-- Settles O55: beside boot and the write of index 5 only BUTTON has `MODE` in its effect, and on an enabled press
edge alone. -/
theorem modeChangesInThreeWays : Obligations.ModeChangesInThreeWays := by
  unfold Obligations.ModeChangesInThreeWays
  intro i s t h hne
  cases exec_effect h
  case init => simp
  case strap => simp
  case wrMode v r => simp
  case button b e he =>
    have hedge : b = true ∧ s.btnCur = false ∧ s.btnEn = true := by
      by_contra hno
      exact hne ((buttoned_mode b s).trans (if_neg hno))
    have hmode : (s.buttoned b).mode = advanceMode s.mode := (buttoned_mode b s).trans (if_pos hedge)
    obtain ⟨-, hlow, hhigh⟩ := advanceMode_range s.mode
    obtain ⟨hcur, hprev, hen⟩ := hedge
    exact .inr (.inr (.inr ⟨rfl, hen, hprev, hcur, hmode ▸ hlow, hmode ▸ hhigh⟩))
  case mode hm => rw [hm.frame] at hne; exact absurd rfl hne
  case render hm => rw [hm.frame] at hne; exact absurd rfl hne
  all_goals exact absurd rfl hne

/-- The operations that reach the line (R160). -/
def lineOps : List Instr := [.symS0, .symS1, .phTransmit, .bootFallback]

theorem lineOps_format {i : Instr} (h : i ∈ lineOps) : i.format ≠ .busop ∧ i.format ≠ .mode := by
  simp only [lineOps, List.mem_cons, List.not_mem_nil, or_false] at h
  rcases h with rfl | rfl | rfl | rfl <;> decide

/-- An operation off the line grows the trace by nothing. -/
theorem appends_nothing {i : Instr} {s t : State} (hw : t.wire = s.wire) (hi : i ∉ lineOps) :
    ∃ l : List Sym, t.wire = s.wire ++ l ∧
      (i = .symS0 → l = [.s0]) ∧ (i = .symS1 → l = [.s1]) ∧
      (i = .phTransmit ∨ i = .bootFallback → ∃ f : Frame, l = frameSymbols f) ∧
      (i ∉ [.symS0, .symS1, .phTransmit, .bootFallback] → l = []) := by
  simp only [lineOps, List.mem_cons, List.not_mem_nil, or_false, not_or] at hi
  obtain ⟨h0, h1, ht, hf⟩ := hi
  exact ⟨[], by simp [hw], fun e => absurd e h0, fun e => absurd e h1,
    fun e => e.elim (fun e => absurd e ht) (fun e => absurd e hf), fun _ => rfl⟩

/-- Settles O56: the effects that reach `WIRE` append to it, and no other effect does. -/
theorem wireOnlyGrows : Obligations.WireOnlyGrows := by
  unfold Obligations.WireOnlyGrows
  intro i s t h hi
  cases exec_effect h
  case init => exact absurd rfl hi
  case symS0 => exact ⟨[.s0], by simp⟩
  case symS1 => exact ⟨[.s1], by simp⟩
  case transmit f => exact ⟨frameSymbols f, by simp⟩
  case fallback f => exact ⟨frameSymbols f, by simp⟩
  case mode hm => exact appends_nothing (by rw [hm.frame]) fun hmem => (lineOps_format hmem).2 hm.format
  case bus hf => exact appends_nothing rfl fun hmem => (lineOps_format hmem).1 hf
  case render hm => exact appends_nothing (by rw [hm.frame]) (by decide)
  all_goals exact appends_nothing rfl (by simp [lineOps])

end Sys2Proof.Machine
end

section
/-! The invariant of the machine, kept operation by operation, and what a step from it answers (R10, R23, R73, R96,
R133, R135, R145, R170, R190). -/

namespace Sys2Proof.Machine

open Sys2Proof

/-! ### Updates common to several operations -/

/-- The environment's answers stand in no clause of the invariant. -/
theorem State.Inv.withEnv {s : State} (h : s.Inv) (e : Env) : State.Inv { s with env := e } := { h with }

/-- A phase number below SNAPSHOT's makes no claim on the latched mode. -/
theorem early (p : BitVec 3) {claim : Prop} (hp : p ≠ 6 ∧ p ≠ 7) (h : p = 6 ∨ p = 7) : claim :=
  absurd h (not_or.2 hp)

/-- A stored register byte keeps the invariant when it is no version, pin or button byte and the register that
depends on it follows it (R10). -/
theorem State.Inv.stored {s t : State} (h : s.Inv) (k : Nat) (hk : k < 36) (v : Byte)
    (hframe : t = { s with
      rf := s.rf.set k v, mode := t.mode, level := t.level, rspeed := t.rspeed, sspeed := t.sspeed,
      btnEn := t.btnEn, gpioMode := t.gpioMode, gpioOut := t.gpioOut })
    (hfree : k ≠ 0 ∧ k ≠ 1 ∧ k ≠ 3 ∧ k ≠ 19)
    (hgpioMode : t.gpioMode = if k = 2 then v.setWidth 4 else s.gpioMode)
    (hgpioOut : t.gpioOut = if k = 4 then v.setWidth 4 else s.gpioOut)
    (hrspeed : t.rspeed = if k = 17 then v else s.rspeed)
    (hsspeed : t.sspeed = if k = 18 then v else s.sspeed)
    (hbtnEn : t.btnEn = if k = 20 then decide (v ≠ 0) else s.btnEn) : t.Inv := by
  obtain ⟨hlow, hhigh, hin, hbutton⟩ := hfree
  rw [hframe, hgpioMode, hgpioOut, hrspeed, hsspeed, hbtnEn]
  exact { h with
    rspeed := by simp only [Vector.getElem_set, h.rspeed]
    sspeed := by simp only [Vector.getElem_set, h.sspeed]
    gpioMode := by simp only [Vector.getElem_set, ← h.gpioMode]; split <;> rfl
    gpioOut := by simp only [Vector.getElem_set, ← h.gpioOut]; split <;> rfl
    btnEn := by simp only [Vector.getElem_set, h.btnEn]; split <;> rfl
    versionLow := by simp only [Vector.getElem_set, hlow, if_false, h.versionLow]
    versionHigh := by simp only [Vector.getElem_set, hhigh, if_false, h.versionHigh]
    gpioInputsHigh := by simp only [Vector.getElem_set, hin, if_false, h.gpioInputsHigh]
    buttonStateHigh := by simp only [Vector.getElem_set, hbutton, if_false, h.buttonStateHigh] }

/-! ### Bus operations -/

/-- A host write keeps the host-owned pairs equal, and reaches neither the version nor the reserved bits. -/
theorem HostEffect.keeps_inv {s t : State} (he : HostEffect s t) (h : s.Inv) : t.Inv := by
  cases he
  case nothing => exact h
  case read => exact { h with }
  case gpioMode v => exact h.stored 2 (by decide) v rfl (by decide) rfl rfl rfl rfl rfl
  case gpioOut v => exact h.stored 4 (by decide) v rfl (by decide) rfl rfl rfl rfl rfl
  case mode v => exact h.stored 5 (by decide) v rfl (by decide) rfl rfl rfl rfl rfl
  case level v => exact h.stored 16 (by decide) v rfl (by decide) rfl rfl rfl rfl rfl
  case rspeed v => exact h.stored 17 (by decide) v rfl (by decide) rfl rfl rfl rfl rfl
  case sspeed v => exact h.stored 18 (by decide) v rfl (by decide) rfl rfl rfl rfl rfl
  case btnEn v => exact h.stored 20 (by decide) v rfl (by decide) rfl rfl rfl rfl (enabledBy_eq v)
  case led k v hk hm =>
    exact h.stored k k.isLt v rfl (by omega) (if_neg (by omega)).symm (if_neg (by omega)).symm
      (if_neg (by omega)).symm (if_neg (by omega)).symm (if_neg (by omega)).symm

/-! ### Boot steps -/

/-- Settles O48: every clause is about values that power-on sets. -/
theorem powerOnSatisfiesTheInvariant : Obligations.PowerOnSatisfiesTheInvariant where
  head := ⟨by decide, by decide, by decide⟩
  rspeed := rfl
  sspeed := rfl
  gpioMode := rfl
  gpioOut := rfl
  btnEn := by decide
  versionLow := rfl
  versionHigh := rfl
  gpioInputsHigh := rfl
  buttonStateHigh := rfl
  mask := rfl
  busOffInBoot := fun _ => rfl
  busOnChecked := fun h => absurd h (by decide)
  latched := fun h => absurd h (by decide)

/-- Every byte of the register file after boot step INIT (R191, decision D16). -/
theorem bootInit_rf {s t : State} (h : exec .bootInit s = .next t) (k : Nat) (hk : k < 36) : t.rf[k] =
    if k = 0 then Config.fwVersion.extractLsb' 0 8
    else if k = 1 then Config.fwVersion.extractLsb' 8 8
    else if k = 17 then Config.rspeedReset
    else if k = 18 then Config.sspeedReset
    else 0 := by
  cases h
  interval_cases k <;> rfl

/-- Beside the register file INIT leaves power-on's values and what that table leaves open (log 25). -/
theorem bootInit_frame {s t : State} (h : exec .bootInit s = .next t) :
    t = { State.reset with
      base := s.base, standalone := s.standalone, lastTick := s.lastTick, ok := s.ok, replies := s.replies
      env := s.env, rf := t.rf, now := t.now, boot := some .strap } := by
  cases h
  rfl

/-- The boot position is free while the bus is off. -/
theorem State.Inv.withBoot {s : State} (h : s.Inv) (hoff : s.busEn = false) (b : Option BootStep) :
    State.Inv { s with boot := b } :=
  { h with busOffInBoot := fun _ => hoff }

theorem State.Inv.standalone {s : State} (h : s.Inv) : s.forceStandalone.Inv := by
  have hmode : State.Inv { s.setRf 5 1 with mode := 1 } :=
    h.stored 5 (by decide) 1 rfl (by decide) rfl rfl rfl rfl rfl
  exact hmode.stored 20 (by decide) 1 rfl (by decide) rfl rfl rfl rfl rfl

/-- Each boot step keeps the invariant, the bus being off until ENABLE (R190, R196). -/
theorem boot_keeps_inv {s t : State} {b : BootStep} (h : s.Inv) (hb : s.boot = some b)
    (hstep : exec b.instr s = .next t) : t.Inv := by
  have hoff : s.busEn = false := h.busOffInBoot (by simp [hb])
  cases b
  case init =>
    have hrf := bootInit_rf hstep
    rw [bootInit_frame hstep]
    exact { powerOnSatisfiesTheInvariant with
      rspeed := hrf 17 (by decide)
      sspeed := hrf 18 (by decide)
      gpioMode := congrArg (BitVec.setWidth 4) (hrf 2 (by decide))
      gpioOut := congrArg (BitVec.setWidth 4) (hrf 4 (by decide))
      btnEn := (congrArg (fun b : Byte => decide (b ≠ 0)) (hrf 20 (by decide))).symm
      versionLow := hrf 0 (by decide)
      versionHigh := hrf 1 (by decide)
      gpioInputsHigh := congrArg (BitVec.extractLsb' 4 4) (hrf 3 (by decide))
      buttonStateHigh := congrArg (BitVec.extractLsb' 2 6) (hrf 19 (by decide))
      busOffInBoot := fun _ => rfl
      busOnChecked := fun hon => absurd hon Bool.false_ne_true }
  case strap =>
    cases hstep
    have hlatched : State.Inv { s with
        standalone := s.env.takeStrap.1, env := s.env.takeStrap.2, boot := some .calibrate } :=
      { h.withBoot hoff (some .calibrate) with }
    split
    · exact hlatched.standalone
    · exact hlatched
  case calibrate =>
    cases hstep
    exact { h.withBoot hoff (some .selfcheck) with }
  case selfcheck =>
    cases hstep
    exact { h with busOffInBoot := fun _ => hoff, busOnChecked := fun hon => absurd (hoff.symm.trans hon) (by decide) }
  case fallback =>
    have hstep' : execBootFallback s = .next t := hstep
    rw [execBootFallback_eq] at hstep'
    cases hstep'
    exact { h with mask := rfl, busOffInBoot := fun _ => hoff }
  case enable =>
    cases hstep
    exact { h with
      busOffInBoot := fun hboot => absurd rfl hboot
      busOnChecked := by
        show (if s.ok then true else s.busEn) = true → s.ok = true
        rw [hoff]
        cases s.ok <;> simp
      latched := early 0 (by decide) }

/-! ### Phases -/

/-- A register file with the same version and host-owned bytes, and the reserved bits 0, will do as well. -/
theorem State.Inv.withRf {s : State} (h : s.Inv) (rf : RegFile)
    (hkeep : ∀ (k : Nat) (hk : k < 36), k ∈ [0, 1, 2, 4, 17, 18, 20] → rf[k] = s.rf[k])
    (hin : rf[3].extractLsb' 4 4 = 0) (hbutton : rf[19].extractLsb' 2 6 = 0) :
    State.Inv { s with rf := rf } :=
  { h with
    rspeed := (hkeep 17 (by decide) (by simp)).trans h.rspeed
    sspeed := (hkeep 18 (by decide) (by simp)).trans h.sspeed
    gpioMode := by rw [hkeep 2 (by decide) (by simp)]; exact h.gpioMode
    gpioOut := by rw [hkeep 4 (by decide) (by simp)]; exact h.gpioOut
    btnEn := by rw [hkeep 20 (by decide) (by simp)]; exact h.btnEn
    versionLow := (hkeep 0 (by decide) (by simp)).trans h.versionLow
    versionHigh := (hkeep 1 (by decide) (by simp)).trans h.versionHigh
    gpioInputsHigh := hin
    buttonStateHigh := hbutton }

/-- A pin sample leaves the upper four bits of its byte 0 (R73). -/
theorem pinByte_high (g : BitVec 4) : (g.setWidth 8 : Byte).extractLsb' 4 4 = 0 := by
  revert g; decide

/-- The button status leaves the upper six bits of its byte 0 (R73). -/
theorem buttonByte_high (prev cur : Bool) : (buttonByte prev cur).extractLsb' 2 6 = 0 := by
  revert prev cur; decide

/-- PUBLISH writes the reserved bits 0 and reaches neither the version nor a host-owned byte (R73, R150). -/
theorem State.Inv.published {s : State} (h : s.Inv) :
    State.Inv { s with rf := s.publishedRf, busMask := false, ph := 5 } := by
  have hkeep : ∀ (k : Nat) (hk : k < 36), k ∈ [0, 1, 2, 4, 17, 18, 20] → s.publishedRf[k] = s.rf[k] := by
    intro k hk hmem
    simp only [List.mem_cons, List.not_mem_nil, or_false] at hmem
    rcases hmem with rfl | rfl | rfl | rfl | rfl | rfl | rfl <;> exact publishedRf_get s _ hk
  have hin : s.publishedRf[3].extractLsb' 4 4 = 0 := by
    rw [publishedRf_get s 3 (by decide)]
    exact pinByte_high s.gpioIn
  have hbutton : s.publishedRf[19].extractLsb' 2 6 = 0 := by
    rw [publishedRf_get s 19 (by decide)]
    exact buttonByte_high s.btnPrev s.btnCur
  exact { h.withRf s.publishedRf hkeep hin hbutton with mask := rfl, latched := early 5 (by decide) }

/-- SNAPSHOT writes the colour bytes alone, which stand in no clause (R152). -/
theorem State.Inv.snapshot {s : State} (h : s.Inv) (hm : s.mlat.toNat ≤ 7) :
    State.Inv { s with rf := withLedBytes s.rf s.buf, busMask := false, ph := 7 } := by
  have hlow := withLedBytes_low s.rf s.buf
  have hkeep : ∀ (k : Nat) (hk : k < 36), k ∈ [0, 1, 2, 4, 17, 18, 20] →
      (withLedBytes s.rf s.buf)[k] = s.rf[k] := by
    intro k hk hmem
    simp only [List.mem_cons, List.not_mem_nil, or_false] at hmem
    exact hlow k (by omega)
  exact { h.withRf (withLedBytes s.rf s.buf) hkeep (by rw [hlow 3 (by decide)]; exact h.gpioInputsHigh)
    (by rw [hlow 19 (by decide)]; exact h.buttonStateHigh) with mask := rfl, latched := fun _ => hm }

/-- Each phase keeps the invariant. -/
theorem phase_keeps_inv {s t : State} (h : s.Inv) (hstep : exec (decodePhase s.ph) s = .next t) : t.Inv := by
  rcases phase_cases s.ph with hph | hph | hph | hph | hph | hph | hph | hph <;> rw [hph] at hstep
  · cases hstep
    split
    · exact { h with latched := early 1 (by decide) }
    · exact { h with }
  · cases hstep
    exact { h with latched := early 2 (by decide) }
  · cases hstep
    exact { h with latched := early 3 (by decide) }
  · cases hstep
    exact { h with latched := early 4 (by decide) }
  · cases hstep
    exact h.published
  · obtain ⟨hmode, hframe⟩ := execPhRender_frame hstep
    obtain ⟨u, hu, rfl⟩ := execPhRender_next hstep
    obtain ⟨u', hu', hhead⟩ := render_legal (s := { s with mlat := s.mode }) hmode h.head
    obtain rfl : u' = u := Host.Outcome.next.inj (hu'.symm.trans hu)
    rw [hframe]
    exact { h with head := hhead, latched := fun _ => hmode }
  · by_cases h0 : s.mlat = 0
    · cases (execPhSnapshot_zero h0).symm.trans hstep
      exact { h with latched := fun _ => h.latched (.inl hph) }
    · have hm := h.latched (.inl hph)
      cases (execPhSnapshot_modes h0 hm).symm.trans hstep
      exact h.snapshot hm
  · obtain ⟨f, rfl⟩ := execPhTransmit_frame hstep
    exact { h with mask := rfl, latched := early 0 (by decide) }

/-! ### A step -/

/-- Settles O49: a step is a boot step, a phase or a bus operation, and each keeps the invariant. -/
theorem stepKeepsTheInvariant : Obligations.StepKeepsTheInvariant := by
  unfold Obligations.StepKeepsTheInvariant
  intro s t h hstep
  rcases step_cases s with ⟨b, hb, heq⟩ | ⟨-, -, heq⟩ | ⟨-, -, -, heq⟩ <;> rw [heq] at hstep
  · exact boot_keeps_inv h hb hstep
  · exact phase_keeps_inv (h.withEnv s.env.takeTurn.2) hstep
  · exact (exec_busop_effect (decodeBusop_format _) hstep).keeps_inv (h.withEnv _)

/-- RENDER in a defined mode, from a legal head (R120, R135). -/
theorem phRender_legal {s : State} (h : s.mode.toNat ≤ 7) (hl : s.HeadLegal) :
    ∃ t, exec .phRender s = .next t := by
  obtain ⟨u, hu, -⟩ := render_legal (s := { s with mlat := s.mode }) h hl
  exact ⟨_, (execPhRender_eq s).trans (congrArg (andThen · _) hu)⟩

/-- RENDER in a reserved mode (R133). -/
theorem phRender_reserved {s : State} (h : 8 ≤ s.mode.toNat) : exec .phRender s = .refused .reservedMode :=
  (execPhRender_eq s).trans (congrArg (andThen · _) (render_reserved _ h))

/-- A phase from the invariant completes, RENDER in a reserved mode apart. -/
theorem phase_completes {s : State} (h : s.Inv) (hmode : s.ph = 5 → s.mode.toNat ≤ 7) :
    ∃ t, exec (decodePhase s.ph) s = .next t := by
  rcases phase_cases s.ph with hph | hph | hph | hph | hph | hph | hph | hph <;> rw [hph]
  iterate 5 exact ⟨_, rfl⟩
  · exact phRender_legal (hmode hph) h.head
  · by_cases h0 : s.mlat = 0
    · exact ⟨_, execPhSnapshot_zero h0⟩
    · exact ⟨_, execPhSnapshot_modes h0 (h.latched (.inl hph))⟩
  · by_cases h0 : s.mlat = 0
    · exact ⟨_, execPhTransmit_zero h0⟩
    · exact ⟨_, execPhTransmit_modes h0 (h.latched (.inr hph))⟩

/-- Settles O50: boot steps and bus operations always complete, a phase does from the invariant, and RENDER in a
reserved mode is the one refusal. -/
theorem stepStopsOnlyOnAReservedMode : Obligations.StepStopsOnlyOnAReservedMode := by
  unfold Obligations.StepStopsOnlyOnAReservedMode
  intro s h
  rcases step_cases s with ⟨b, hb, heq⟩ | ⟨hb, -, heq⟩ | ⟨-, -, -, heq⟩ <;> rw [heq]
  · cases b <;> exact .inl ⟨_, rfl⟩
  · by_cases hreserved : s.ph = 5 ∧ 8 ≤ s.mode.toNat
    · obtain ⟨hph, h8⟩ := hreserved
      refine .inr ⟨?_, hb, hph, h8⟩
      rw [hph]
      exact phRender_reserved (s := s.turned) h8
    · exact .inl (phase_completes (h.withEnv s.env.takeTurn.2) fun hph => by
        have h8 : ¬ 8 ≤ s.mode.toNat := fun h8 => hreserved ⟨hph, h8⟩
        exact Nat.le_of_lt_succ (Nat.lt_of_not_le h8))
  · obtain ⟨t, ht, -⟩ := exec_busop (decodeBusop_format s.env.takeTurn.2.takeHostOp.1)
      { s with env := s.env.takeTurn.2.takeHostOp.2 }
    exact .inl ⟨t, ht⟩

end Sys2Proof.Machine
end

section
/-! What a step runs, the order of the phases, and the bus that stays off (R46, R80, R145, R146, R190, R195). -/

namespace Sys2Proof.Machine

open Sys2Proof

/-! ### What a step runs -/

theorem busReady_iff {s : State} : s.busReady = true ↔ s.busEn = true ∧ s.busMask = false := by
  simp [State.busReady]

/-- Settles O5: the three cases of the fetch, the instruction being what the fetched word decodes to. -/
theorem stepRunsTheDecodedOperation : Obligations.StepRunsTheDecodedOperation := by
  unfold Obligations.StepRunsTheDecodedOperation
  refine ⟨fun s b i hb hi => ?_, fun s i hb hturn hi => ?_, fun s i hb hturn hen hmask hi => ?_⟩
  · rw [decode_bootWord] at hi
    cases hi
    exact step_boot hb
  · rw [decode_phaseWord] at hi
    cases hi
    refine step_tick hb (hturn.imp_right fun hoff => ?_)
    rcases hoff with hoff | hoff <;> simp [State.busReady, hoff]
  · rw [decode_busop] at hi
    cases hi
    exact step_bus hb hturn (busReady_iff.2 ⟨hen, hmask⟩)

/-- A run after a completing run. -/
theorem stepTimes_add {m n : Nat} {s t : State} (h : stepTimes m s = .next t) :
    stepTimes (m + n) s = stepTimes n t := by
  induction m generalizing s with
  | zero => cases h; rw [Nat.zero_add]
  | succ m ih =>
    obtain ⟨u, hu, hrest⟩ := stepTimes_succ_next h
    rw [Nat.add_right_comm, stepTimes_succ hu, ih hrest]

/-! ### The order of the phases -/

/-- A completing phase moves `PH` on by one, mod 8; WAIT may stay (R145, R146). -/
theorem phase_next_ph {s t : State} (h : exec (decodePhase s.ph) s = .next t) :
    t.ph = s.ph + 1 ∨ s.ph = 0 ∧ t.ph = 0 := by
  rcases phase_cases s.ph with hph | hph | hph | hph | hph | hph | hph | hph <;> rw [hph] at h ⊢
  · obtain ⟨-, hstay | hmove⟩ := execPhWait_frame h
    · exact .inr ⟨rfl, hstay.trans hph⟩
    · exact .inl hmove
  iterate 4
    next =>
      cases h
      exact .inl rfl
  · obtain ⟨-, hframe⟩ := execPhRender_frame h
    rw [hframe]
    exact .inl rfl
  · obtain ⟨-, hframe⟩ := execPhSnapshot_frame h
    rw [hframe]
    exact .inl rfl
  · obtain ⟨f, rfl⟩ := execPhTransmit_frame h
    exact .inl rfl

/-- Settles O57: a bus operation has no `PH` in its frame, and a phase moves it on. -/
theorem phasesFollowInOrder : Obligations.PhasesFollowInOrder := by
  unfold Obligations.PhasesFollowInOrder
  intro s t hb hstep
  constructor
  · rintro ⟨hturn, hready⟩
    rw [step_bus hb hturn (busReady_iff.2 hready)] at hstep
    rw [(exec_busop_effect (decodeBusop_format _) hstep).frame]
  · intro hno
    have hturn : s.env.takeTurn.1 = .tick ∨ s.busReady = false := by
      rcases step_cases s with ⟨b, hsome, -⟩ | ⟨-, hturn, -⟩ | ⟨-, hturn, hready, -⟩
      · simp [hb] at hsome
      · exact hturn
      · exact absurd ⟨hturn, busReady_iff.1 hready⟩ hno
    rw [step_tick hb hturn] at hstep
    exact phase_next_ph (s := s.turned) hstep

/-! ### The bus that stays off -/

/-- What the host alone, or boot, writes: boot's position, `BUS_EN`, the host's bytes and operations, and the
registers of the indices it owns. -/
structure SameForHost (s t : State) : Prop where
  boot : t.boot = s.boot
  busEn : t.busEn = s.busEn
  replies : t.replies = s.replies
  hostOps : t.env.hostOps = s.env.hostOps
  rspeed : t.rspeed = s.rspeed
  sspeed : t.sspeed = s.sspeed
  btnEn : t.btnEn = s.btnEn
  gpioMode : t.gpioMode = s.gpioMode
  gpioOut : t.gpioOut = s.gpioOut

/-- A phase leaves all of it alone. -/
theorem Effect.phase_sameForHost {s t : State} {i : Instr} (h : Effect s i t) (hi : i.format = .phase) :
    SameForHost s t := by
  cases h
  case bus hf => cases hf.symm.trans hi
  case mode hm => cases hm.format.symm.trans hi
  case render hm =>
    rw [hm.frame]
    exact ⟨rfl, rfl, rfl, rfl, rfl, rfl, rfl, rfl, rfl⟩
  case wait he | gpio he | touch he | button he => exact ⟨rfl, rfl, rfl, he, rfl, rfl, rfl, rfl, rfl⟩
  case publish | snapshot | transmit => exact ⟨rfl, rfl, rfl, rfl, rfl, rfl, rfl, rfl, rfl⟩
  all_goals cases hi

theorem SameForHost.trans {s t u : State} (h : SameForHost s t) (h' : SameForHost t u) : SameForHost s u where
  boot := h'.boot.trans h.boot
  busEn := h'.busEn.trans h.busEn
  replies := h'.replies.trans h.replies
  hostOps := h'.hostOps.trans h.hostOps
  rspeed := h'.rspeed.trans h.rspeed
  sspeed := h'.sspeed.trans h.sspeed
  btnEn := h'.btnEn.trans h.btnEn
  gpioMode := h'.gpioMode.trans h.gpioMode
  gpioOut := h'.gpioOut.trans h.gpioOut

/-- With the bus off after boot a step is a phase, so all of it stays (R80). -/
theorem step_sameForHost {s t : State} (hb : s.boot = none) (hoff : s.busEn = false) (h : step s = .next t) :
    SameForHost s t := by
  rw [step_tick hb (.inr (by simp [State.busReady, hoff]))] at h
  obtain ⟨-, hformat, -⟩ := decodePhase_spec s.ph
  have hturned : SameForHost s s.turned := by
    refine ⟨rfl, rfl, rfl, ?_, rfl, rfl, rfl, rfl, rfl⟩
    rw [State.turned_eq, Env.takeTurn_frame]
  exact hturned.trans ((exec_effect h).phase_sameForHost hformat)

/-- Settles O58: that all of it is as at the start holds of the start and is kept by every step, the bus being off. -/
theorem disabledBusIsNeverServed : Obligations.DisabledBusIsNeverServed := by
  unfold Obligations.DisabledBusIsNeverServed
  intro n s t hb hoff hrun
  have keep : ∀ u v : State, SameForHost s u → step u = .next v → SameForHost s v := fun u v hu hstep =>
    hu.trans (step_sameForHost (hu.boot.trans hb) (hu.busEn.trans hoff) hstep)
  have h := stepTimes_keeps keep n s t ⟨rfl, rfl, rfl, rfl, rfl, rfl, rfl, rfl, rfl⟩ hrun
  exact ⟨h.boot.trans hb, h.busEn.trans hoff, h.replies, h.hostOps, h.rspeed, h.sspeed, h.btnEn, h.gpioMode,
    h.gpioOut⟩

end Sys2Proof.Machine
end

section
/-! The host's reads and writes, table by table (R81 to R95, R108, R109, R177). -/

namespace Sys2Proof.Machine

open Sys2Proof

/-! ### The tables of writes, row by row -/

/-- A write of a read-only index leaves the state as it is (R82, R84, R87, R91). -/
theorem exec_readOnlyWrite {p : (Byte → Instr) × Fin 36} (hp : p ∈ readOnlyWrites) (v : Byte) (s : State) :
    exec (p.1 v) s = .next s := by
  revert p
  simp only [readOnlyWrites, List.forall_mem_cons, List.not_mem_nil, false_implies, implies_true, and_true]
  and_intros
  all_goals rfl

/-- A write of a colour byte (R93). -/
theorem exec_ledWrite {p : (Byte → Instr) × Fin 36} (hp : p ∈ ledWrites) (v : Byte) (s : State) :
    exec (p.1 v) s = .next (s.hostWriteLed p.2 v) := by
  revert p
  simp only [ledWrites, List.forall_mem_cons, List.not_mem_nil, false_implies, implies_true, and_true]
  and_intros
  all_goals rfl

/-- A write of a writable index stores the byte and returns none (R81). -/
theorem exec_storingWrite {p : (Byte → Instr) × Fin 36} (hp : p ∈ storingWrites) (v : Byte) (s : State) :
    ∃ t, exec (p.1 v) s = .next t ∧ t.rf = s.rf.set p.2 v ∧ t.replies = s.replies := by
  revert p
  simp only [storingWrites, List.forall_mem_cons, List.not_mem_nil, false_implies, implies_true, and_true]
  and_intros
  all_goals exact ⟨_, rfl, rfl, rfl⟩

/-! ### Reads -/

/-- Settles O7: each unmapped row draws. -/
theorem unmappedReadsDraw : Obligations.UnmappedReadsDraw := by
  unfold Obligations.UnmappedReadsDraw
  simp only [unmappedReads, List.forall_mem_cons, List.not_mem_nil, false_implies, implies_true, and_true]
  and_intros
  all_goals
    intro idx s
    rfl

theorem exec_idRd_inside {off : Byte} (h : off.toNat < Config.idLen) (s : State) :
    exec (.idRd off) s = .next { s with replies := s.replies ++ [Config.identity[off.toNat]'h] } := by
  show execIdRd off s = _
  rw [execIdRd, List.getElem?_eq_getElem h]
  rfl

theorem exec_idRd_beyond {off : Byte} (h : Config.idLen ≤ off.toNat) (s : State) :
    exec (.idRd off) s =
      .next { s with replies := s.replies ++ [s.env.takeByte.1], env := s.env.takeByte.2 } := by
  show execIdRd off s = _
  rw [execIdRd, List.getElem?_eq_none h]
  rfl

/-- Settles O8: a read looks the offset up in the identity block, and the words are sums of their fields. -/
theorem identityReadAndWrite : Obligations.IdentityReadAndWrite := by
  unfold Obligations.IdentityReadAndWrite
  refine ⟨fun off s => ?_, fun off v s => rfl, fun off v => ⟨?_, ?_⟩⟩
  · by_cases hin : off.toNat < Config.idLen
    · rw [dif_pos hin]
      exact exec_idRd_inside hin s
    · rw [dif_neg hin]
      exact exec_idRd_beyond (Nat.le_of_not_lt hin) s
  · apply BitVec.eq_of_toNat_eq
    rw [encode, busWord_toNat]
    simp only [Bool.toNat_true, Bool.toNat_false, BitVec.ofNat_eq_ofNat, BitVec.toNat_ofNat]
    omega
  · have hv := v.isLt
    apply BitVec.eq_of_toNat_eq
    rw [encode, busWord_toNat]
    simp only [Bool.toNat_true, BitVec.toNat_ofNat]
    omega

/-- Settles O9: the byte is that of the register file. -/
theorem readsSeeOnlyTheRegisterFile : Obligations.ReadsSeeOnlyTheRegisterFile := by
  unfold Obligations.ReadsSeeOnlyTheRegisterFile
  intro p hp s t hrf
  obtain ⟨-, hread⟩ := mappedReadsReturnTheRegister p hp
  exact ⟨s.rf[p.2], _, _, hread s, hread t, rfl, by rw [hrf]⟩

/-! ### Writes -/

/-- Settles O10: each row is the store and one re-derivation. -/
theorem writesStoreAndRederive : Obligations.WritesStoreAndRederive := by
  unfold Obligations.WritesStoreAndRederive
  intro v s
  refine ⟨rfl, rfl, rfl, rfl, rfl, ?_⟩
  rw [← enabledBy_eq]
  rfl

/-- Settles O11: the write is the store and `RSPEED`, its word is that of index 17, and the read after it returns the
register just written. -/
theorem rainbowSpeedWrite : Obligations.RainbowSpeedWrite := by
  unfold Obligations.RainbowSpeedWrite
  intro v s
  refine ⟨rfl, wrWord_ofNat (n := 17) (by decide) v, fun t ht => ?_⟩
  cases ht
  obtain ⟨-, hread⟩ := mappedReadsReturnTheRegister (.rdRspeed, 17) (by decide)
  exact (hread _).trans (by simp)

/-- Settles O12: the pin follows the register that the write has just re-derived. -/
theorem gpioWritesReachThePins : Obligations.GpioWritesReachThePins := by
  unfold Obligations.GpioWritesReachThePins
  intro v s i
  refine ⟨⟨_, rfl, ?_⟩, ⟨_, rfl, ?_⟩⟩
  · simp [State.pin, State.pinIsOutput]
  · simp +contextual [State.pin, State.pinIsOutput]

/-- Settles O13: each row of the table is ignored. -/
theorem readOnlyWritesAreIgnored : Obligations.ReadOnlyWritesAreIgnored := fun _ hp => exec_readOnlyWrite hp

/-- Settles O14: each unmapped row leaves the state as it is. -/
theorem unmappedWritesAreIgnored : Obligations.UnmappedWritesAreIgnored := by
  unfold Obligations.UnmappedWritesAreIgnored
  simp only [unmappedWrites, List.forall_mem_cons, List.not_mem_nil, false_implies, implies_true, and_true]
  and_intros
  all_goals
    intro idx v s
    rfl

/-- Settles O15: the byte is stored in mode 0 alone. -/
theorem ledWritesOnlyInModeZero : Obligations.LedWritesOnlyInModeZero := by
  unfold Obligations.LedWritesOnlyInModeZero
  intro p hp v s
  rw [exec_ledWrite hp, State.hostWriteLed_eq]
  rfl

/-- A host-writable index, a colour byte in mode 0, stores the byte and returns none. -/
theorem exec_hostWritable {p : (Byte → Instr) × Fin 36} (hp : p ∈ storingWrites ++ ledWrites) (v : Byte)
    {s : State} (hmode : 21 ≤ p.2.val → s.mode = 0) :
    ∃ t, exec (p.1 v) s = .next t ∧ t.rf = s.rf.set p.2 v ∧ t.replies = s.replies := by
  rcases List.mem_append.1 hp with hp | hp
  · exact exec_storingWrite hp v s
  · have hled : ∀ q ∈ ledWrites, 21 ≤ q.2.val := by
      simp [ledWrites]
    have hzero := hmode (hled p hp)
    refine ⟨s.setRf p.2 v, ?_, rfl, rfl⟩
    rw [exec_ledWrite hp, State.hostWriteLed_eq, if_pos hzero]

/-- Settles O16: the read finds the byte that the write has stored. -/
theorem writeThenReadReturnsTheByte : Obligations.WriteThenReadReturnsTheByte := by
  unfold Obligations.WriteThenReadReturnsTheByte
  intro p hp q hq hindex v s hmode
  obtain ⟨t, hwrite, hrf, hreplies⟩ := exec_hostWritable hp v hmode
  obtain ⟨-, hread⟩ := mappedReadsReturnTheRegister q hq
  refine ⟨{ t with replies := t.replies ++ [t.rf[q.2]] }, ?_, ?_⟩
  · rw [execAll_cons hwrite, execAll_cons (hread t)]
    rfl
  · show t.replies ++ [t.rf[q.2]] = s.replies ++ [v]
    rw [hreplies, hrf, hindex]
    simp

/-- A bus operation changes only the bytes the host may write. -/
theorem HostEffect.writes {s t : State} (h : HostEffect s t) (k : Fin 36) (hne : t.rf[k] ≠ s.rf[k]) :
    k.val ∈ [2, 4, 5, 16, 17, 18, 20] ∨ 21 ≤ k.val ∧ s.mode = 0 := by
  have hset : ∀ (j : Nat) (hj : j < 36) (v : Byte), (s.rf.set j v)[k] ≠ s.rf[k] → k.val = j := by
    intro j hj v hne
    by_contra hkj
    exact hne (Vector.getElem_set_ne _ _ (Ne.symm hkj))
  cases h
  case nothing | read => exact absurd rfl hne
  case led j v hj hm =>
    rw [hset j j.isLt v hne]
    exact .inr ⟨hj, hm⟩
  all_goals
    refine .inl ?_
    rw [hset _ (by decide) _ hne]
    decide

/-- Settles O17: every bus operation has one of the host's effects. -/
theorem hostAccessRights : Obligations.HostAccessRights := by
  unfold Obligations.HostAccessRights
  intro i hi s
  obtain ⟨t, ht, heffect⟩ := exec_busop hi s
  exact ⟨t, ht, heffect.writes, heffect.frame⟩

end Sys2Proof.Machine
end

section
/-! The phases one by one (R112, R120, R133, R141 to R153). -/

namespace Sys2Proof.Machine

open Sys2Proof

/-! ### WAIT and GPIO -/

/-- Settles O18: the test of the period is the wrapped difference against 20 ms. -/
theorem waitPhase : Obligations.WaitPhase := by
  unfold Obligations.WaitPhase
  intro s n hn
  subst hn
  exact congrArg Host.Outcome.next (if_congr (periodElapsed_iff _ _) rfl rfl)

/-- Settles O19: the meaning of the phase. -/
theorem gpioPhase : Obligations.GpioPhase := fun _ => rfl

/-! ### TOUCH -/

theorem exceedsLevel_eq_false {d : Count} : exceedsLevel d = false ↔ d.toInt ≤ 1900 := by
  rw [← Bool.not_eq_true, exceedsLevel_iff, Int.not_lt]

theorem levelAfter_none {d : PerChannel Count} (old : Byte) (h : ∀ i : Fin 5, d[i].toInt ≤ 1900) :
    levelAfter d old = old := by
  rw [levelAfter, lastHit_none fun i => exceedsLevel_eq_false.2 (h i)]

theorem levelAfter_highest {d : PerChannel Count} (old : Byte) {i : Fin 5} (hi : 1900 < d[i].toInt)
    (hj : ∀ j : Fin 5, i < j → d[j].toInt ≤ 1900) : (levelAfter d old).toNat = i.val := by
  rw [levelAfter, lastHit_some ((exceedsLevel_iff _).2 hi) fun j hij => exceedsLevel_eq_false.2 (hj j hij)]
  show (BitVec.ofNat 8 i.val).toNat = i.val
  rw [BitVec.toNat_ofNat]
  omega

/-- Settles O20: the deltas channel by channel, and the level of the scan over them. -/
theorem touchPhase : Obligations.TouchPhase := by
  unfold Obligations.TouchPhase
  intro s
  refine ⟨_, rfl, fun i => ?_, levelAfter_none s.level, fun i => levelAfter_highest s.level, rfl⟩
  exact Vector.getElem_ofFn _

/-! ### BUTTON -/

/-- Settles O21: the shift of the sample; the mode and the phase number are the rest. -/
theorem buttonPhaseShiftsTheSample : Obligations.ButtonPhaseShiftsTheSample := by
  unfold Obligations.ButtonPhaseShiftsTheSample
  exact fun s => ⟨_, execPhButton_eq s, rfl, rfl, rfl⟩

/-- Settles O22: the mode is advanced exactly on an enabled press edge. -/
theorem buttonPhaseAdvancesTheMode : Obligations.ButtonPhaseAdvancesTheMode := by
  unfold Obligations.ButtonPhaseAdvancesTheMode
  intro s t h
  cases (execPhButton_eq s).symm.trans h
  have hmode := buttoned_mode s.env.takeButton.1 s
  refine ⟨rfl, fun hedge => ?_, fun hno => hmode.trans (if_neg hno)⟩
  exact (congrArg BitVec.toNat (hmode.trans (if_pos hedge))).trans (advanceMode_toNat s.mode)

/-- Settles O23: an advance never stays and lands in 1 to 7. -/
theorem buttonNeverLandsOnZero : Obligations.ButtonNeverLandsOnZero := by
  unfold Obligations.ButtonNeverLandsOnZero
  intro s
  have hmode := buttoned_mode s.env.takeButton.1 s
  obtain ⟨hmoves, hrange⟩ := advanceMode_range s.mode
  refine ⟨_, execPhButton_eq s, ?_⟩
  show ((s.buttoned s.env.takeButton.1).mode ≠ s.mode ↔
      s.env.takeButton.1 = true ∧ s.btnCur = false ∧ s.btnEn = true) ∧
    ((s.buttoned s.env.takeButton.1).mode ≠ s.mode → _)
  by_cases hedge : s.env.takeButton.1 = true ∧ s.btnCur = false ∧ s.btnEn = true
  · rw [hmode, if_pos hedge]
    exact ⟨⟨fun _ => hedge, fun _ => hmoves⟩, fun _ => hrange⟩
  · rw [if_neg hedge] at hmode
    exact ⟨⟨fun hne => absurd hmode hne, fun h => absurd h hedge⟩, fun hne => absurd hmode hne⟩

/-! ### PUBLISH -/

/-- Settles O24: the register file byte by byte. -/
theorem publishPhase : Obligations.PublishPhase := by
  unfold Obligations.PublishPhase
  intro s
  refine ⟨_, execPhPublish_eq s, publishedRf_get s 3 (by decide), publishedRf_get s 5 (by decide),
    publishedRf_get s 16 (by decide), fun b => ?_, publishedRf_channel s, fun k h3 h5 hrange h19 => ?_, rfl⟩
  · show (s.publishedRf[19]).getLsbD b = _
    rw [publishedRf_get s 19 (by decide)]
    exact buttonByte_bit s.btnPrev s.btnCur b
  · have h16 : k.val ≠ 16 := fun h => hrange (by omega)
    have hdelta : ¬(6 ≤ k.val ∧ k.val ≤ 15) := fun h => hrange (by omega)
    refine (publishedRf_get s k k.isLt).trans ?_
    rw [if_neg h3, if_neg h5, if_neg h16, if_neg h19, dif_neg hdelta]
    rfl

/-! ### RENDER -/

/-- Settles O25: RENDER is the dispatch on the latched mode, which completes from a legal head in modes 0 to 7. -/
theorem renderRunsTheModeRule : Obligations.RenderRunsTheModeRule := by
  unfold Obligations.RenderRunsTheModeRule
  intro s i hi
  rw [decode_modeWord] at hi
  cases hi
  refine ⟨?_, fun h7 hl => ?_, phRender_reserved⟩
  · rw [← renderMode_eq]
    exact execPhRender_eq s
  · obtain ⟨t, ht⟩ := phRender_legal h7 hl
    obtain ⟨-, hframe⟩ := execPhRender_frame ht
    exact ⟨t, ht, by rw [hframe], by rw [hframe]⟩

/-! ### Reserved modes, SNAPSHOT and TRANSMIT -/

/-- Settles O26: each reserved row is refused, and the two phases test the latched mode. -/
theorem reservedModesAreRefused : Obligations.ReservedModesAreRefused := by
  unfold Obligations.ReservedModesAreRefused
  refine ⟨?_, fun s h => ⟨execPhSnapshot_reserved h, execPhTransmit_reserved h⟩⟩
  simp only [reservedModes, List.forall_mem_cons, List.not_mem_nil, false_implies, implies_true, and_true]
  and_intros
  all_goals
    intro m s
    rfl

/-- Settles O27: mode 0 copies nothing, modes 1 to 7 replace the fifteen colour bytes. -/
theorem snapshotPhase : Obligations.SnapshotPhase := by
  unfold Obligations.SnapshotPhase
  intro s h7
  by_cases h0 : s.mlat = 0
  · exact ⟨_, execPhSnapshot_zero h0, fun _ => rfl, fun hne => absurd h0 hne, fun _ => rfl⟩
  · refine ⟨_, execPhSnapshot_modes h0 h7, fun hz => absurd hz h0, fun _ => ⟨fun k => ?_, fun k hk => ?_⟩, ?_⟩
    · exact withLedBytes_led s.rf s.buf k k.isLt
    · exact withLedBytes_low s.rf s.buf k hk
    · intro hmask
      rw [← hmask]

/-- Settles O28: the frame is that of the register file in mode 0 and the buffer in modes 1 to 7. -/
theorem transmitPhase : Obligations.TransmitPhase := by
  unfold Obligations.TransmitPhase
  intro s hmask
  refine ⟨fun h0 => ⟨ledBytes s.rf, fun k => ledBytes_get s.rf k k.isLt, ?_⟩, fun h1 h7 => ?_⟩
  · refine (execPhTransmit_zero h0).trans ?_
    rw [← hmask]
  · have h0 : s.mlat ≠ 0 := by
      intro h0
      simp [h0] at h1
    refine (execPhTransmit_modes h0 h7).trans ?_
    rw [← hmask]

end Sys2Proof.Machine
end

section
/-! The LED line: the order of a frame's bits, its symbols and their pulses (R65, R160 to R169). -/

namespace Sys2Proof.Machine

open Sys2Proof

/-- Settles O29: the symbols are those of the frame's bits in order, and the gap stands last. -/
theorem frameBitOrder : Obligations.FrameBitOrder := by
  unfold Obligations.FrameBitOrder
  intro f
  have hlength : ((frameBits f).map symOf).length = 120 := by simp
  refine ⟨frameSymbols_length f, ?_, fun n => ?_⟩
  · rw [frameSymbols, List.getElem?_append_right (by omega), hlength]
    rfl
  · rw [frameSymbols, List.getElem?_append_left (by omega), List.getElem?_map, frameBits_get f n n.isLt]
    rfl

/-- Settles O30: a symbol more on the trace is its pulse more on the line. -/
theorem symbolsAndTheirPulses : Obligations.SymbolsAndTheirPulses := by
  unfold Obligations.SymbolsAndTheirPulses
  refine ⟨fun s => ⟨rfl, rfl, fun t h => ?_⟩, fun s t h => ?_, fun s t h => ?_, ?_⟩
  · cases h
    exact State.line_snoc (x := .s1) rfl
  · cases h
    exact State.line_snoc (x := .s0) rfl
  · obtain ⟨d, hd, hpulse⟩ := Sym.pulse_gap s.wire.length
    exact ⟨d, hd, by rw [State.line_snoc h, hpulse]⟩
  · exact Nat.lt_succ_of_le (Nat.le_add_right _ _)

/-- A data bit as a word of its own decodes to its symbol operation (R66). -/
theorem decode_symWord (b : Bool) : decode .sym (if b then 1 else 0) = .ok (decodeSym b) := by
  cases b <;> rfl

/-- Settles O31: the instructions are the symbol operations of the bits, each of which appends its symbol. -/
theorem frameIsItsSymbolOperations : Obligations.FrameIsItsSymbolOperations := by
  unfold Obligations.FrameIsItsSymbolOperations
  intro f is s hdecode
  have his : is = (frameBits f).map decodeSym := by
    have hinj : Function.Injective (Except.ok : Instr → Except DecodeError Instr) := fun _ _ => Except.ok.inj
    apply List.map_injective_iff.2 hinj
    simp only [← hdecode, decode_symWord, List.map_map, Function.comp_def]
  subst his
  refine ⟨by simp, _, execAll_sym (frameBits f) s, ?_, rfl⟩
  exact List.append_assoc _ _ _

end Sys2Proof.Machine
end

section
/-! The render modes 0 to 2 (R121 to R123). -/

namespace Sys2Proof.Machine

open Sys2Proof

/-- Settles O32: the meaning of the mode. -/
theorem passthroughWritesNothing : Obligations.PassthroughWritesNothing := fun _ => rfl

/-- Settles O33: the frame of the social colours, LED by LED. -/
theorem socialLevelColours : Obligations.SocialLevelColours := by
  unfold Obligations.SocialLevelColours
  intro s
  refine ⟨_, rfl, fun i => ⟨?_, ?_, ?_⟩, rfl⟩
  · refine (congrArg BitVec.toNat (grbFrame_green _ i)).trans ?_
    show (if s.level.toNat < i.val then 0 else levelGreen s.level : Byte).toNat = _
    rw [apply_ite BitVec.toNat, levelGreen_toNat]
    rfl
  · refine (congrArg BitVec.toNat (grbFrame_red _ i)).trans ?_
    show (if s.level.toNat < i.val then 0 else levelRed s.level : Byte).toNat = _
    rw [apply_ite BitVec.toNat, levelRed_toNat]
    rfl
  · exact (grbFrame_blue _ i).trans (if_congr (exceedsActive_iff _) rfl rfl)

/-- The hue argument is taken mod 256 (R70). -/
theorem hueArg_eq (hue rspeed : Byte) (i : Nat) :
    hueArg hue rspeed i = BitVec.ofNat 8 ((hue.toNat + i * rspeed.toNat) % 256) := by
  apply BitVec.eq_of_toNat_eq
  simp [hueArg]

/-- The colour of LED `i` in mode 2 (R123). -/
def rainbowColour (s : State) (i : Fin 5) : Rgb := Config.hsv2rgb (hueArg s.hue s.rspeed i.val) 240 128

theorem exec_mRainbow (s : State) :
    exec .mRainbow s = .next { s with buf := grbFrame (rainbowColour s), hue := s.hue + 1 } := rfl

/-- Settles O34: the frame of the hues, LED by LED, and the hue counter one on. -/
theorem rainbowColours : Obligations.RainbowColours := by
  unfold Obligations.RainbowColours
  intro s
  refine ⟨_, exec_mRainbow s, fun i => ⟨rainbowColour s i, ?_, ?_, ?_, ?_⟩, acc_succ_toNat s.hue, rfl⟩
  · rw [rainbowColour, hueArg_eq]
  · exact grbFrame_green (rainbowColour s) i
  · exact grbFrame_red (rainbowColour s) i
  · exact grbFrame_blue (rainbowColour s) i

/-- The hue counter after `n` renderings of mode 2 (R123). -/
theorem execTimes_rainbow_hue (n : Nat) (s : State) :
    ∃ t, execTimes n .mRainbow s = .next t ∧ t.hue.toNat = (s.hue.toNat + n) % 256 := by
  induction n generalizing s with
  | zero => exact ⟨s, rfl, (Nat.mod_eq_of_lt s.hue.isLt).symm⟩
  | succ n ih =>
    obtain ⟨u, hu, -, hhue, -⟩ := rainbowColours s
    obtain ⟨t, ht, hturned⟩ := ih u
    refine ⟨t, (execTimes_succ hu).trans ht, ?_⟩
    rw [hturned, hhue]
    omega

/-- Settles O35: 256 more is the same, mod 256. -/
theorem hueTurnsIn256 : Obligations.HueTurnsIn256 := by
  unfold Obligations.HueTurnsIn256
  intro n s
  obtain ⟨t, ht, hhue⟩ := execTimes_rainbow_hue n s
  refine ⟨t, ht, hhue, fun hn => BitVec.eq_of_toNat_eq ?_⟩
  have hlt := s.hue.isLt
  omega

end Sys2Proof.Machine
end

section
/-! The scanner modes: the accumulator, the move of the head, the dwell and the bounce (R126, R127, R135, R178). -/

namespace Sys2Proof.Machine

open Sys2Proof

theorem scanModes_step {p : Instr × Nat} (hp : p ∈ scanModes) {s : State} (hl : s.HeadLegal) :
    exec p.1 s = .next (s.scanStep p.2) :=
  (scanModes_exec hp s).trans (scan_legal p.2 s hl)

/-- Settles O38: below the threshold the accumulator counts, above it the head moves. -/
theorem scannerAdvancesAndMoves : Obligations.ScannerAdvancesAndMoves := by
  unfold Obligations.ScannerAdvancesAndMoves
  intro p hp s hl
  refine ⟨_, scanModes_step hp hl, fun hstill => ?_, fun hmove => ?_, scanStep_legal _ s hl, ?_⟩
  · rw [scanStep_still hstill]
    exact ⟨acc_succ_toNat s.acc, rfl, rfl⟩
  · obtain ⟨q, e, -, heq, hforward, hbackward⟩ := scanStep_move (c := p.2) hl hmove
    rw [heq]
    exact ⟨rfl, hforward, hbackward⟩
  · obtain ⟨q, e, a, heq⟩ := scanStep_eq_scanned p.2 s
    rw [heq]
    rfl

/-- A scanner step stops where the head has no move: above 4 always, at an end when it would move (log 19). -/
theorem scan_stops {c : Nat} {s : State} (hnone : movedHead s.pos s.dir = none)
    (hstop : headMoves s.acc s.sspeed = true ∨ 4 < s.pos.toNat) : scan c s = .fault .scannerHeadLeft := by
  rw [scan, hnone]
  exact if_pos (by simpa using hstop)

/-- Settles O39: in each of these states the head has no move. -/
theorem scannerStopsRatherThanClamp : Obligations.ScannerStopsRatherThanClamp := by
  unfold Obligations.ScannerStopsRatherThanClamp
  intro p hp s
  rw [scanModes_exec hp]
  refine ⟨fun habove => scan_stops (if_pos habove) (.inr habove), fun hmove hend => ?_⟩
  refine scan_stops ?_ (.inl ((headMoves_iff _ _).2 hmove))
  rcases hend with ⟨hpos, hdir⟩ | ⟨hpos, hdir⟩ <;> rw [hpos, hdir] <;> rfl

/-! ### The dwell -/

/-- A scanner step that does not move the head, from one that has not moved it from `s`. -/
theorem still_step {c : Nat} {s t : State} (hpos : t.pos = s.pos) (hdir : t.dir = s.dir)
    (hspeed : t.sspeed = s.sspeed) (hstill : (t.acc.toNat + 1) % 256 ≤ 255 - s.sspeed.toNat) :
    (t.scanStep c).pos = s.pos ∧ (t.scanStep c).dir = s.dir ∧ (t.scanStep c).sspeed = s.sspeed ∧
      (t.scanStep c).acc.toNat = (t.acc.toNat + 1) % 256 := by
  rw [← hspeed] at hstill
  rw [scanStep_still hstill]
  exact ⟨hpos, hdir, hspeed, acc_succ_toNat t.acc⟩

theorem headLegal_congr {s t : State} (hpos : t.pos = s.pos) (hdir : t.dir = s.dir) (h : s.HeadLegal) :
    t.HeadLegal := by
  rw [State.HeadLegal, hpos, hdir]
  exact h

/-- From `ACC = 0` the head stands still for `255 - SSPEED` steps, which the accumulator counts (R127). -/
theorem execTimes_dwell {p : Instr × Nat} (hp : p ∈ scanModes) {s : State} (hl : s.HeadLegal) (hacc : s.acc = 0)
    (n : Nat) (hn : n < 256 - s.sspeed.toNat) :
    ∃ t, execTimes n p.1 s = .next t ∧ t.pos = s.pos ∧ t.dir = s.dir ∧ t.sspeed = s.sspeed ∧
      t.acc.toNat = n := by
  induction n with
  | zero => exact ⟨s, rfl, rfl, rfl, rfl, congrArg BitVec.toNat hacc⟩
  | succ n ih =>
    obtain ⟨t, ht, hpos, hdir, hspeed, hcount⟩ := ih (by omega)
    have hnext : (t.acc.toNat + 1) % 256 = n + 1 := by omega
    obtain ⟨hpos', hdir', hspeed', hcount'⟩ := still_step (c := p.2) hpos hdir hspeed (by omega)
    refine ⟨_, (execTimes_snoc ht).trans (scanModes_step hp (headLegal_congr hpos hdir hl)), hpos', hdir',
      hspeed', ?_⟩
    rw [hcount', hnext]

/-- With `SSPEED = 0` the accumulator never passes the threshold (R127, D37). -/
theorem execTimes_never {p : Instr × Nat} (hp : p ∈ scanModes) {s : State} (hl : s.HeadLegal)
    (hzero : s.sspeed = 0) (n : Nat) :
    ∃ t, execTimes n p.1 s = .next t ∧ t.pos = s.pos ∧ t.dir = s.dir ∧ t.sspeed = s.sspeed := by
  induction n with
  | zero => exact ⟨s, rfl, rfl, rfl, rfl⟩
  | succ n ih =>
    obtain ⟨t, ht, hpos, hdir, hspeed⟩ := ih
    have hthreshold : 255 - s.sspeed.toNat = 255 := by rw [hzero]; rfl
    obtain ⟨hpos', hdir', hspeed', -⟩ := still_step (c := p.2) hpos hdir hspeed (by omega)
    exact ⟨_, (execTimes_snoc ht).trans (scanModes_step hp (headLegal_congr hpos hdir hl)), hpos', hdir', hspeed'⟩

/-- A move is of one place (R126). -/
theorem scanStep_one_place {c : Nat} {s : State} (hl : s.HeadLegal)
    (hmove : 255 - s.sspeed.toNat < (s.acc.toNat + 1) % 256) :
    (s.scanStep c).acc = 0 ∧
      ((s.scanStep c).pos.toNat = s.pos.toNat + 1 ∨ (s.scanStep c).pos.toNat + 1 = s.pos.toNat) := by
  obtain ⟨q, e, -, heq, hforward, hbackward⟩ := scanStep_move (c := c) hl hmove
  rw [heq]
  refine ⟨rfl, ?_⟩
  cases hdir : s.dir
  · exact .inl (hforward hdir).1
  · exact .inr (hbackward hdir).1

/-- Settles O40: the accumulator counts the steps up to the threshold, and the next step moves the head. -/
theorem scannerDwell : Obligations.ScannerDwell := by
  unfold Obligations.ScannerDwell
  intro p hp s hl
  refine ⟨fun hacc n hn => ?_, fun hacc hspeed => ?_, fun hzero n => ?_⟩
  · obtain ⟨t, ht, hpos, hdir, -, hcount⟩ := execTimes_dwell hp hl hacc n hn
    exact ⟨t, ht, hpos, hdir, hcount⟩
  · have hlt := s.sspeed.isLt
    have hsteps : 256 - s.sspeed.toNat = 255 - s.sspeed.toNat + 1 := by omega
    obtain ⟨t, ht, hpos, hdir, hsame, hcount⟩ :=
      execTimes_dwell hp hl hacc (255 - s.sspeed.toNat) (by omega)
    have hlegal := headLegal_congr hpos hdir hl
    obtain ⟨hacc', hplace⟩ := scanStep_one_place (c := p.2) hlegal (by rw [hsame, hcount]; omega)
    rw [hpos] at hplace
    rw [hsteps]
    exact ⟨_, (execTimes_snoc ht).trans (scanModes_step hp hlegal), hacc', scanStep_legal _ t hlegal, hplace⟩
  · obtain ⟨t, ht, hpos, hdir, -⟩ := execTimes_never hp hl hzero n
    exact ⟨t, ht, hpos, hdir⟩

/-! ### The bounce -/

/-- The head after one move, where it has one. -/
def nextHead (h : BitVec 3 × Dir) : BitVec 3 × Dir := (movedHead h.1 h.2).getD h

/-- At the highest speed every step from `ACC = 0` moves the head. -/
theorem scanStep_fast (c : Nat) {s : State} (hacc : s.acc = 0) (hspeed : s.sspeed = 255) :
    s.scanStep c = s.scanned c (nextHead (s.pos, s.dir)).1 (nextHead (s.pos, s.dir)).2 0 := by
  have hmoves : headMoves s.acc s.sspeed = true := by rw [hacc, hspeed]; decide
  exact if_pos hmoves

/-- `n` steps at the highest speed are `n` moves of the head. -/
theorem execTimes_fast {p : Instr × Nat} (hp : p ∈ scanModes) {s : State} (hl : s.HeadLegal) (hacc : s.acc = 0)
    (hspeed : s.sspeed = 255) (n : Nat) :
    ∃ t, execTimes n p.1 s = .next t ∧ (t.pos, t.dir) = nextHead^[n] (s.pos, s.dir) ∧ t.acc = 0 := by
  induction n generalizing s with
  | zero => exact ⟨s, rfl, rfl, hacc⟩
  | succ n ih =>
    have hlegal := scanStep_legal p.2 s hl
    have hstep := scanModes_step hp hl
    rw [scanStep_fast p.2 hacc hspeed] at hlegal hstep
    obtain ⟨t, ht, hhead, hacc'⟩ := ih hlegal rfl hspeed
    exact ⟨t, (execTimes_succ hstep).trans ht, hhead, hacc'⟩

/-- The legal heads, in the order of a round from LED 0 (R135, R178). -/
def headRound : List (BitVec 3 × Dir) :=
  [(0, .forward), (1, .forward), (2, .forward), (3, .forward), (4, .backward), (3, .backward), (2, .backward),
    (1, .backward)]

theorem State.HeadLegal.mem_round {s : State} (h : s.HeadLegal) : (s.pos, s.dir) ∈ headRound := by
  obtain ⟨hrange, hlast, hfirst⟩ := h
  generalize s.pos = p, s.dir = d at *
  cases d
  case forward => revert p; decide
  case backward => revert p; decide

/-- Eight moves are a round from every legal head, fewer are none, and the round passes both ends (R178). -/
theorem nextHead_round : ∀ h ∈ headRound,
    nextHead^[8] h = h ∧ (∀ n : Fin 8, 1 ≤ n.val → nextHead^[n] h ≠ h) ∧
      ∀ q ∈ [(0 : BitVec 3), 4], ∃ n : Fin 8, (nextHead^[n] h).1 = q := by
  decide

/-- Settles O41: at the highest speed a step is a move, and a round has eight. -/
theorem scannerBounceIsEightMoves : Obligations.ScannerBounceIsEightMoves := by
  unfold Obligations.ScannerBounceIsEightMoves
  intro p hp s hl hacc hspeed
  obtain ⟨hround, hfewer, hends⟩ := nextHead_round _ hl.mem_round
  refine ⟨?_, fun n h1 h7 => ?_, fun q hq => ?_⟩
  · obtain ⟨t, ht, hhead, hacc'⟩ := execTimes_fast hp hl hacc hspeed 8
    rw [hround, Prod.mk.injEq] at hhead
    exact ⟨t, ht, hhead.1, hhead.2, hacc'⟩
  · obtain ⟨t, ht, hhead, -⟩ := execTimes_fast hp hl hacc hspeed n
    refine ⟨t, ht, not_and_or.1 fun hsame => hfewer ⟨n, by omega⟩ h1 ?_⟩
    rw [← hhead, hsame.1, hsame.2]
  · obtain ⟨n, hn⟩ := hends q hq
    obtain ⟨t, ht, hhead, -⟩ := execTimes_fast hp hl hacc hspeed n
    exact ⟨n, by omega, t, ht, (congrArg Prod.fst hhead).trans hn⟩

end Sys2Proof.Machine
end

section
/-! Boot: each step, and the way from power-on to the tick loop (R111, R190 to R196). -/

namespace Sys2Proof.Machine

open Sys2Proof

/-! ### The boot steps -/

/-- Settles O42: power-on's values, the register file byte by byte. -/
theorem bootInitSetsPowerOnValues : Obligations.BootInitSetsPowerOnValues := by
  unfold Obligations.BootInitSetsPowerOnValues
  intro s
  obtain ⟨t, ht⟩ : ∃ t, exec .bootInit s = .next t := ⟨_, rfl⟩
  have hrf := bootInit_rf ht
  have hrest : ∀ k : Fin 36, k.val ∉ [0, 1, 17, 18] → t.rf[k] = 0 := by
    intro k hk
    simp only [List.mem_cons, List.not_mem_nil, or_false, not_or] at hk
    obtain ⟨h0, h1, h17, h18⟩ := hk
    refine (hrf k k.isLt).trans ?_
    rw [if_neg h0, if_neg h1, if_neg h17, if_neg h18]
  have hdelta : ∀ i : Fin 5, State.reset.delta[i] = 0 := by decide
  have hbuf : ∀ k : Fin 15, State.reset.buf[k] = 0 := by decide
  refine ⟨t, ht, ?_⟩
  rw [bootInit_frame ht]
  exact ⟨rfl, rfl, rfl, rfl, rfl, rfl, rfl, hdelta, rfl, rfl, rfl, rfl, rfl, rfl, rfl, hbuf, hrf 0 (by decide),
    hrf 1 (by decide), hrf 17 (by decide), hrf 18 (by decide), hrest, rfl, rfl, rfl, rfl, rfl, rfl, rfl, rfl, rfl,
    rfl, rfl⟩

/-- Settles O43: the strap's two branches. -/
theorem bootStrapForcesStandalone : Obligations.BootStrapForcesStandalone := by
  unfold Obligations.BootStrapForcesStandalone
  intro s
  refine ⟨_, execBootStrap_eq s, rfl, rfl, fun hstrap => ?_, fun hstrap => ?_, rfl⟩
  · exact ⟨if_pos hstrap, if_pos hstrap, if_pos hstrap⟩
  · have hno : ¬ s.env.takeStrap.1 = true := by
      rw [show s.env.takeStrap.1 = false from hstrap]
      decide
    exact ⟨if_neg hno, if_neg hno, if_neg hno⟩

/-- Settles O44: the five samples in the order of `takeFive`. -/
theorem bootCalibrateCapturesTheBaseline : Obligations.BootCalibrateCapturesTheBaseline := by
  unfold Obligations.BootCalibrateCapturesTheBaseline
  exact fun s => ⟨rfl, _, _, _, _, rfl, rfl, rfl, rfl, rfl, rfl⟩

/-- Settles O45: the meaning of the step, by what the lines show. -/
theorem bootSelfcheckBranches : Obligations.BootSelfcheckBranches := by
  unfold Obligations.BootSelfcheckBranches
  intro s
  refine ⟨_, rfl, rfl, fun hok => if_pos hok, fun hok => if_neg ?_, rfl⟩
  rw [show s.env.takeBusHigh.1 = false from hok]
  decide

/-- Settles O46: FALLBACK sends one frame inside its critical section, ENABLE opens the bus after a passed check. -/
theorem bootFallbackAndEnable : Obligations.BootFallbackAndEnable := by
  unfold Obligations.BootFallbackAndEnable
  refine ⟨fun s => ⟨_, execBootFallback_eq s, rfl, rfl, fun hmask => ?_⟩,
    fun s => ⟨_, rfl, rfl, rfl, rfl, rfl, fun hok => if_pos hok, fun hok => ?_, rfl⟩⟩
  · rw [← hmask]
  · exact if_neg (by rw [hok]; decide)

/-! ### From power-on to the tick loop -/

/-- The mode and the button as the strap has them (R192). -/
structure Strapped (s : State) : Prop where
  alone : s.standalone = true → s.mode = 1 ∧ s.rf[5] = 1 ∧ s.btnEn = true ∧ s.rf[20] = 1
  hosted : s.standalone = false → s.mode = 0 ∧ s.rf[5] = 0 ∧ s.btnEn = false ∧ s.rf[20] = 0

/-- INIT and STRAP: nothing on the line, the bus off, the strap latched. -/
theorem boot_to_calibrate {s : State} (hb : s.boot = some .init) :
    ∃ t, stepTimes 2 s = .next t ∧ t.boot = some .calibrate ∧ t.wire = [] ∧ t.busEn = false ∧ Strapped t := by
  obtain ⟨u, hu⟩ : ∃ u, exec .bootInit s = .next u := ⟨_, rfl⟩
  have hrf := bootInit_rf hu
  have hframe := bootInit_frame hu
  have hboot : u.boot = some .strap := by rw [hframe]
  obtain ⟨t, ht, -, hcalibrate, halone, hhosted, htframe⟩ := bootStrapForcesStandalone u
  refine ⟨t, ?_, hcalibrate, ?_, ?_, fun h => ?_, fun h => ?_⟩
  · rw [stepTimes_succ ((step_boot hb).trans hu), stepTimes_succ ((step_boot hboot).trans ht)]
    rfl
  · rw [htframe, hframe]; rfl
  · rw [htframe, hframe]; rfl
  · obtain ⟨hmode, hbtn, hset⟩ := halone h
    exact ⟨hmode, by simp [hset], hbtn, by simp [hset]⟩
  · obtain ⟨hmode, hbtn, hsame⟩ := hhosted h
    have hreset : u.mode = 0 ∧ u.btnEn = false := by rw [hframe]; exact ⟨rfl, rfl⟩
    rw [hmode, hbtn, hsame]
    exact ⟨hreset.1, hrf 5 (by decide), hreset.2, hrf 20 (by decide)⟩

/-- CALIBRATE and SELFCHECK change neither the line, nor the bus, nor what the strap has set. -/
theorem calibrate_to_branch {s : State} (hb : s.boot = some .calibrate) :
    ∃ t, stepTimes 2 s = .next t ∧ t.boot = some (if t.ok then .enable else .fallback) ∧
      t = { s with boot := t.boot, ok := t.ok, base := t.base, env := t.env } := by
  obtain ⟨u, hu, hboot, hframe⟩ : ∃ u, exec .bootCalibrate s = .next u ∧ u.boot = some .selfcheck ∧
      u = { s with boot := u.boot, base := u.base, env := u.env } := ⟨_, rfl, rfl, rfl⟩
  obtain ⟨t, ht, -, hpassed, hfailed, htframe⟩ := bootSelfcheckBranches u
  refine ⟨t, ?_, ?_, ?_⟩
  · rw [stepTimes_succ ((step_boot hb).trans hu), stepTimes_succ ((step_boot hboot).trans ht)]
    rfl
  · cases hok : t.ok
    · exact hfailed hok
    · exact hpassed hok
  · rw [htframe, hframe]

/-- ENABLE ends boot, with the bus on exactly if the self-check has passed. -/
theorem enable_ends_boot {s : State} (hb : s.boot = some .enable) (hoff : s.busEn = false) :
    ∃ t, step s = .next t ∧ t.boot = none ∧ t.ph = 0 ∧ t.busEn = s.ok ∧ t.lastTick = t.now ∧
      t = { s with
        boot := t.boot, ph := t.ph, now := t.now, lastTick := t.lastTick, busEn := t.busEn, env := t.env } := by
  obtain ⟨-, henable⟩ := bootFallbackAndEnable
  obtain ⟨t, ht, hnone, hph, -, hlast, hpassed, hfailed, hframe⟩ := henable s
  refine ⟨t, (step_boot hb).trans ht, hnone, hph, ?_, hlast, by rw [hframe]⟩
  cases hok : s.ok
  · exact (hfailed hok).trans hoff
  · exact hpassed hok

/-- FALLBACK sends its frame and goes on to ENABLE. -/
theorem fallback_to_enable {s : State} (hb : s.boot = some .fallback) :
    ∃ t, step s = .next t ∧ t.boot = some .enable ∧ t.wire = s.wire ++ frameSymbols Config.fallback ∧
      t = { s with boot := t.boot, wire := t.wire, now := t.now, busMask := t.busMask } :=
  ⟨_, (step_boot hb).trans (execBootFallback_eq s), rfl, rfl, rfl⟩

/-- Settles O47: four steps lead to the branch of the self-check, which takes ENABLE alone or FALLBACK and ENABLE. -/
theorem bootReachesTheTickLoop : Obligations.BootReachesTheTickLoop := by
  unfold Obligations.BootReachesTheTickLoop
  intro s hb
  obtain ⟨c, hc, hcboot, hwire, hoff, halone, hhosted⟩ := boot_to_calibrate hb
  obtain ⟨b, hrun, hbranch, hbframe⟩ := calibrate_to_branch hcboot
  have hfour : stepTimes 4 s = .next b := (stepTimes_add (n := 2) hc).trans hrun
  have hboff : b.busEn = false := by rw [hbframe, hoff]
  cases hok : b.ok
  case true =>
    rw [hok] at hbranch
    obtain ⟨t, ht, hnone, hph, hon, hlast, hframe⟩ := enable_ends_boot hbranch hboff
    refine ⟨t, .inl ⟨?_, hon.trans hok, ?_⟩, hnone, hph, ?_, hlast, ?_⟩
    · rw [stepTimes_add (n := 1) hfour, stepTimes_succ ht]
      rfl
    · rw [hframe, hbframe, hwire]
    · rw [hon, hframe]
    · rw [hframe, hbframe]
      exact ⟨halone, hhosted⟩
  case false =>
    rw [hok] at hbranch
    obtain ⟨u, hu, huboot, huwire, huframe⟩ := fallback_to_enable hbranch
    have huoff : u.busEn = false := by rw [huframe, hboff]
    have huok : u.ok = false := by rw [huframe, hok]
    obtain ⟨t, ht, hnone, hph, hon, hlast, hframe⟩ := enable_ends_boot huboot huoff
    refine ⟨t, .inr ⟨?_, hon.trans huok, ?_⟩, hnone, hph, ?_, hlast, ?_⟩
    · rw [stepTimes_add (n := 2) hfour, stepTimes_succ hu, stepTimes_succ ht]
      rfl
    · rw [hframe, huwire, hbframe, hwire]
      rfl
    · rw [hon, hframe]
    · rw [hframe, huframe, hbframe]
      exact ⟨halone, hhosted⟩

end Sys2Proof.Machine
end

section
/-! A whole tick, and the colour bytes in mode 0 (R93, R145, R150, R152, R153). -/

namespace Sys2Proof.Machine

open Sys2Proof

/-! ### The colour bytes in mode 0 -/

/-- Settles O60: the fifteen writes leave the frame in the colour bytes, which TRANSMIT sends in mode 0. -/
theorem passthroughRoundTrip : Obligations.PassthroughRoundTrip := by
  unfold Obligations.PassthroughRoundTrip
  intro f s hmode hlatched
  obtain ⟨r, hrun, hled⟩ := execAll_frameWrites f hmode [.phTransmit]
  have hframe : ledBytes r = f := by
    ext k hk : 1
    exact (ledBytes_get r k hk).trans (hled ⟨k, hk⟩)
  have hsend := execPhTransmit_zero (s := { s with rf := r }) hlatched
  rw [hframe] at hsend
  exact ⟨_, hrun.trans (execAll_cons hsend), rfl, hled⟩

/-! ### A tick -/

/-- Agent TICK about to run the phase `p`, with the next `n` turns its own, in a defined mode. -/
structure Ticking (p : BitVec 3) (n : Nat) (rest : List Agent) (s : State) : Prop where
  inv : s.Inv
  boot : s.boot = none
  ph : s.ph = p
  turns : s.env.turns = List.replicate n .tick ++ rest
  mode : s.mode.toNat ≤ 7

/-- The state a phase runs in, one turn taken. -/
def State.turnTaken (n : Nat) (rest : List Agent) (s : State) : State :=
  { s with env := { s.env with turns := List.replicate n .tick ++ rest } }

/-- A phase of a tick is a step, which keeps what the next phase needs. -/
theorem Ticking.step {p q : BitVec 3} {n : Nat} {rest : List Agent} {s t : State} (h : Ticking p (n + 1) rest s)
    (hexec : exec (decodePhase p) (s.turnTaken n rest) = .next t) (hboot : t.boot = none) (hph : t.ph = q)
    (hturns : t.env.turns = List.replicate n .tick ++ rest) (hmode : t.mode.toNat ≤ 7) :
    Machine.step s = .next t ∧ Ticking q n rest t := by
  have hstep : Machine.step s = .next t := by
    obtain rfl := h.ph
    exact (step_tick_cons h.boot h.turns).trans hexec
  exact ⟨hstep, stepKeepsTheInvariant s t h.inv hstep, hboot, hph, hturns, hmode⟩

theorem Ticking.gpio {n : Nat} {rest : List Agent} {s : State} (h : Ticking 1 (n + 1) rest s) :
    ∃ t, Machine.step s = .next t ∧ Ticking 2 n rest t ∧ t.wire = s.wire := by
  obtain ⟨hstep, hnext⟩ := h.step (q := 2) rfl h.boot rfl (by rw [Env.takeGpio_frame]; rfl) h.mode
  exact ⟨_, hstep, hnext, rfl⟩

theorem Ticking.touch {n : Nat} {rest : List Agent} {s : State} (h : Ticking 2 (n + 1) rest s) :
    ∃ t, Machine.step s = .next t ∧ Ticking 3 n rest t ∧ t.wire = s.wire := by
  obtain ⟨hstep, hnext⟩ := h.step (q := 3) rfl h.boot rfl (by rw [Env.takeFive_frame]; rfl) h.mode
  exact ⟨_, hstep, hnext, rfl⟩

/-- A press edge leads from a defined mode to a defined mode (R142). -/
theorem buttoned_mode_le (b : Bool) {s : State} (h : s.mode.toNat ≤ 7) : (s.buttoned b).mode.toNat ≤ 7 := by
  rw [buttoned_mode]
  split
  · exact (advanceMode_range s.mode).2.2
  · exact h

theorem Ticking.button {n : Nat} {rest : List Agent} {s : State} (h : Ticking 3 (n + 1) rest s) :
    ∃ t, Machine.step s = .next t ∧ Ticking 4 n rest t ∧ t.wire = s.wire := by
  have hmode := buttoned_mode_le (s.turnTaken n rest).env.takeButton.1 h.mode
  obtain ⟨hstep, hnext⟩ := h.step (q := 4) (execPhButton_eq _) h.boot rfl
    (by rw [Env.takeButton_frame]; rfl) hmode
  exact ⟨_, hstep, hnext, rfl⟩

/-- The register file shows what was sensed (R150). -/
structure Published (s : State) : Prop where
  mode : s.rf[5] = s.mode
  level : s.rf[16] = s.level
  pins : s.rf[3] = s.gpioIn.setWidth 8
  deltas : ∀ i : Fin 5, s.rf[6 + 2 * i.val]'(by show _ < 36; omega) = s.delta[i].extractLsb' 0 8 ∧
    s.rf[7 + 2 * i.val]'(by show _ < 36; omega) = s.delta[i].extractLsb' 8 8
  button : ∀ b : Nat, s.rf[19].getLsbD b = (decide (b = 0) && s.btnCur || decide (b = 1) && s.btnPrev)

/-- The colour bytes are no part of what is published. -/
theorem Published.withLedBytes {s : State} (h : Published s) (f : Frame) :
    Published { s with rf := withLedBytes s.rf f } := by
  have hlow := withLedBytes_low s.rf f
  refine ⟨(hlow 5 (by decide)).trans h.mode, (hlow 16 (by decide)).trans h.level,
    (hlow 3 (by decide)).trans h.pins, fun i => ?_, fun b => ?_⟩
  · exact ⟨(hlow (6 + 2 * i.val) (by omega)).trans (h.deltas i).1,
      (hlow (7 + 2 * i.val) (by omega)).trans (h.deltas i).2⟩
  · exact (congrArg (BitVec.getLsbD · b) (hlow 19 (by decide))).trans (h.button b)

theorem Ticking.publish {n : Nat} {rest : List Agent} {s : State} (h : Ticking 4 (n + 1) rest s) :
    ∃ t, Machine.step s = .next t ∧ Ticking 5 n rest t ∧ t.wire = s.wire ∧ Published t := by
  obtain ⟨t, ht, hpins, hmode, hlevel, hbutton, hdeltas, -, hframe⟩ := publishPhase (s.turnTaken n rest)
  obtain ⟨hstep, hnext⟩ := h.step (q := 5) ht (by rw [hframe]; exact h.boot) (by rw [hframe])
    (by rw [hframe]; rfl) (by rw [hframe]; exact h.mode)
  refine ⟨t, hstep, hnext, by rw [hframe]; rfl, ?_⟩
  rw [hframe]
  exact ⟨hmode, hlevel, hpins, hdeltas, hbutton⟩

/-- RENDER leaves the published bytes and latches the mode (R120). -/
theorem Ticking.render {n : Nat} {rest : List Agent} {s : State} (h : Ticking 5 (n + 1) rest s)
    (hp : Published s) :
    ∃ t, Machine.step s = .next t ∧ Ticking 6 n rest t ∧ t.wire = s.wire ∧ Published t ∧ t.mlat = t.mode := by
  obtain ⟨t, ht⟩ := phRender_legal (s := s.turnTaken n rest) h.mode h.inv.head
  obtain ⟨-, hframe⟩ := execPhRender_frame ht
  obtain ⟨hstep, hnext⟩ := h.step (q := 6) ht (by rw [hframe]; exact h.boot) (by rw [hframe])
    (by rw [hframe]; rfl) (by rw [hframe]; exact h.mode)
  refine ⟨t, hstep, hnext, by rw [hframe]; rfl, ?_, by rw [hframe]⟩
  rw [hframe]
  exact { hp with }

/-- SNAPSHOT leaves the buffer in the colour bytes, but in mode 0 (R152). -/
theorem Ticking.snapshot {n : Nat} {rest : List Agent} {s : State} (h : Ticking 6 (n + 1) rest s)
    (hp : Published s) (hm : s.mlat = s.mode) :
    ∃ t, Machine.step s = .next t ∧ Ticking 7 n rest t ∧ t.wire = s.wire ∧ Published t ∧ t.mlat = t.mode ∧
      (t.mode ≠ 0 → ledBytes t.rf = t.buf) := by
  by_cases h0 : s.mlat = 0
  · obtain ⟨hstep, hnext⟩ := h.step (q := 7) (execPhSnapshot_zero h0) h.boot rfl rfl h.mode
    exact ⟨_, hstep, hnext, rfl, { hp with }, hm, fun hne => absurd (hm.symm.trans h0) hne⟩
  · have h7 : s.mlat.toNat ≤ 7 := by rw [hm]; exact h.mode
    obtain ⟨hstep, hnext⟩ := h.step (q := 7) (execPhSnapshot_modes h0 h7) h.boot rfl rfl h.mode
    exact ⟨_, hstep, hnext, rfl, { hp.withLedBytes s.buf with }, hm, fun _ => ledBytes_withLedBytes s.rf s.buf⟩

/-- TRANSMIT sends the colour bytes, from the buffer or as the host wrote them (R153). -/
theorem Ticking.transmit {n : Nat} {rest : List Agent} {s : State} (h : Ticking 7 (n + 1) rest s)
    (hm : s.mlat = s.mode) (hled : s.mode ≠ 0 → ledBytes s.rf = s.buf) :
    ∃ t, Machine.step s = .next t ∧ Ticking 0 n rest t ∧
      t = { s with
        wire := s.wire ++ frameSymbols (ledBytes s.rf), ph := 0, busMask := t.busMask, env := t.env } := by
  by_cases h0 : s.mlat = 0
  · obtain ⟨hstep, hnext⟩ := h.step (q := 0) (execPhTransmit_zero h0) h.boot rfl rfl h.mode
    exact ⟨_, hstep, hnext, rfl⟩
  · have h7 : s.mlat.toNat ≤ 7 := by rw [hm]; exact h.mode
    obtain ⟨hstep, hnext⟩ := h.step (q := 0) (execPhTransmit_modes h0 h7) h.boot rfl rfl h.mode
    refine ⟨_, hstep, hnext, ?_⟩
    rw [hled (hm ▸ h0)]
    rfl

/-- Settles O59: the seven phases in their order; only TRANSMIT reaches the line, and it sends the colour bytes. -/
theorem tickSendsOneFrame : Obligations.TickSendsOneFrame := by
  unfold Obligations.TickSendsOneFrame
  intro s rest hinv hboot hph hmode hturns
  have h0 : Ticking 1 7 rest s := ⟨hinv, hboot, hph, hturns, hmode⟩
  obtain ⟨s1, step1, h1, wire1⟩ := h0.gpio
  obtain ⟨s2, step2, h2, wire2⟩ := h1.touch
  obtain ⟨s3, step3, h3, wire3⟩ := h2.button
  obtain ⟨s4, step4, h4, wire4, hpub4⟩ := h3.publish
  obtain ⟨s5, step5, h5, wire5, hpub5, hm5⟩ := h4.render hpub4
  obtain ⟨s6, step6, h6, wire6, hpub6, hm6, hled6⟩ := h5.snapshot hpub5 hm5
  obtain ⟨t, step7, h7, hframe⟩ := h6.transmit hm6 hled6
  have hpub : Published t := by
    rw [hframe]
    exact { hpub6 with }
  have hrun : stepTimes 7 s = .next t := by
    rw [stepTimes_succ step1, stepTimes_succ step2, stepTimes_succ step3, stepTimes_succ step4,
      stepTimes_succ step5, stepTimes_succ step6, stepTimes_succ step7]
    rfl
  have hwire : t.wire = s.wire ++ frameSymbols (ledBytes t.rf) := by
    rw [hframe, wire6, wire5, wire4, wire3, wire2, wire1]
  have hled : t.mode ≠ 0 → ledBytes t.rf = t.buf := by
    rw [hframe]
    exact hled6
  have hm : t.mlat = t.mode := by
    rw [hframe]
    exact hm6
  exact ⟨t, hrun, h7.ph, h7.turns, hwire, hled, hm, hpub.mode, hpub.level, hpub.pins, hpub.deltas, hpub.button⟩

end Sys2Proof.Machine
end
